-- ==== Sys2Proof/Word.lean ====
section
/-! DEFINITION. The words of the part's lines and masks. -/

namespace Sys2Proof

/-- A byte on the control link or on a panel line. -/
abbrev Byte := BitVec 8

/-- A 16-bit field: a cue word, a key, a lane mask as sent, a profile word. -/
abbrev Half := BitVec 16

/-- A 32-bit counter, which wraps from 4,294,967,295 to 0 (R26, R74, R122, R170). -/
abbrev Counter := BitVec 32

/-- A lane mask: bit 0 is P, bits 1 to 8 are A1 to A8, bit 9 is C (R191). -/
abbrev LaneMask := BitVec 10

/-- A set of outlets, bit 0 for outlet 0 (R191). -/
abbrev OutletSet := BitVec 4

/-- A set of buttons: DROP, DROP ALL, MUTE, COVER in bit order (R191). -/
abbrev ButtonSet := BitVec 4

/-- A holders set: bits 0 to 3 are panels 0 to 3, bit 4 the control link (R191). -/
abbrev HolderSet := BitVec 5

/-- An outlet, and with it its Outlet Unit and output port. -/
abbrev OutletId := Fin 4

/-- A panel line. -/
abbrev PanelId := Fin 4

/-- A filler clip. -/
abbrev ClipId := Fin 8

/-- A watch slot. -/
abbrev SlotId := Fin 16

/-- A lane, numbered as in a lane mask; P, A1 to A8 are in the order of R32. -/
abbrev Lane := Fin 10

end Sys2Proof
end

