-- ==== Sys2Proof/Config.lean ====
section
/-! DEFINITION. The sizes the manual fixes for the part, and the values it leaves open. -/

namespace Sys2Proof.Config

/-- Pages in the Page Pool (R1). -/
def poolPages : Nat := 131072

/-- Bytes in a page (R1, R33). -/
def pageBytes : Nat := 16384

/-- Pages in one chain at most (R1, R33). -/
def chainPages : Nat := 64

/-- Frame records in the Frame Ring (R4). -/
def ringRecords : Nat := 2048

/-- Filler frame records in the Filler Table (R158). -/
def fillerRecords : Nat := 480

/-- Frames of a clip at most (R157). -/
def clipFrames : Nat := 120

/-- Cut records in the Cut Table at most (R95). -/
def cutRecords : Nat := 32

/-- Entries in the action queue at most (R147). -/
def actionEntries : Nat := 16

/-- Notices in the Notice Queue at most (R170). -/
def noticeEntries : Nat := 32

/-- Packets in the request buffer at most (R170). -/
def bufferPackets : Nat := 2

/-- The number after the last sequence number, 4,294,967,296 (R26). -/
def numberEnd : Nat := 4294967296

/-- The greatest depth, target, floor, span or retention depth (R15, R46, R122). -/
def depthMax : Nat := 1920

/-- Bytes in one audio sample.  The manual gives no sample format: a free value (log entry 9). -/
opaque sampleWidth : Nat

/-- The magnitude of one audio sample from its bytes: a free value (log entry 9). -/
opaque sampleMagnitude : List Byte → Nat

/-- The magnitude of full scale: a free value (log entry 9). -/
opaque fullScale : Nat

/-- The number reported as last when a record whose first is 0 closes with an empty range, so that
`first − 1` names no frame (R108): a free value (log entry 10). -/
opaque lastBelowZero : Nat

/-- The table position reported for a record that has left the table in the event that reports it
(R99, R110), by its id: a free value (log entry 11). -/
opaque retiredPosition : Nat → Nat

end Sys2Proof.Config
end

