-- ==== Sys2Proof/Syntax.lean ====
section
/-! DEFINITION. The commands of the part: one constructor of `Instr` for each row of the table of operations and
events, with the operands that the row's rule gives it. A request row carries the tag and the fields of the
request's body at the widths of R192; a row for an event at a port carries what the port reports with it. -/

namespace Sys2Proof

/-- A reference, a source or a sink: there or not (R26, R46). -/
inductive Presence where
  | present
  | lost
  deriving DecidableEq, Repr

/-- The rates the two strap pins choose from (R170). -/
inductive Baud where
  | b57600
  | b115200
  | b230400
  | b460800
  deriving DecidableEq, Repr

/-- What the ports and the strap pins report at a reset (R27, R46, R170). -/
structure PortReport where
  source : Presence
  reference : Presence
  sinks : Vector Presence 4
  straps : Baud
  deriving DecidableEq, Repr

/-- Who reads a page of a Held frame: an outlet or the copy engine (R21). -/
inductive Reader where
  | outlet (o : OutletId)
  | copyEngine
  deriving DecidableEq, Repr

/-- The four bytes of a timecode as they arrive, in range or not (R37, R152). -/
structure RawTimecode where
  hh : Byte
  mm : Byte
  ss : Byte
  ff : Byte
  deriving DecidableEq, Repr

/-- One piece of section data of an arriving frame ("Making a frame"). -/
inductive Piece where
  /-- A picture piece with its bytes. -/
  | picture (data : List Byte)
  /-- An audio piece of track `track + 1` with its bytes. -/
  | audio (track : Fin 8) (data : List Byte)
  /-- A caption piece with its bytes. -/
  | captions (bytes : List Byte)
  /-- A cue piece with its one cue word. -/
  | cue (word : Half)
  deriving DecidableEq, Repr

/-- The three fields of INGEST PAUSE (R39). -/
structure PauseFields where
  threshold : Byte
  cue : Half
  enable : Byte
  deriving DecidableEq, Repr

/-- The fields of WATCH SET after its slot, in the order of R192. -/
structure WatchFields where
  source : Byte
  pattern : Half
  mask : Half
  timecode : RawTimecode
  compare : Byte
  mode : Byte
  action : Byte
  kind : Byte
  lanes : Half
  pre : Byte
  post : Byte
  outlets : Byte
  target : Half
  deriving DecidableEq, Repr

/-- The four fields of SETTINGS SAVE (R188). -/
structure SaveFields where
  holdLimit : Half
  floorKey : Half
  ingestAuto : Byte
  outletAuto : Byte
  deriving DecidableEq, Repr

/-- The commands. -/
inductive Instr where
  -- reset and settings port
  | powerOnReset (ports : PortReport)
  | loadEnd (readable : Bool)
  | saveWriteEnd (success : Bool)
  -- control link
  | controlByteReceived (b : Byte)
  | controlGapExpiry
  | transmitEnd (straps : Baud)
  -- requests
  | status (tag : Byte)
  | reset (tag : Byte)
  | outletStart (tag outlet mode : Byte) (k : Half)
  | outletStop (tag outlet : Byte)
  | outletTarget (tag outlet : Byte) (target : Half)
  | outletFloor (tag outlet : Byte) (floor : Half)
  | floorUnlock (tag outlet : Byte) (key : Half)
  | outletShape (tag outlet spacing tolerance : Byte)
  | outletClip (tag outlet clip : Byte)
  | outletRead (tag outlet clear : Byte)
  | ingestStart (tag : Byte)
  | ingestStop (tag : Byte)
  | ingestRate (tag rate : Byte)
  | ingestPause (tag : Byte) (fields : Option PauseFields)
  | retainSet (tag : Byte) (depth : Half)
  | frameRead (tag : Byte) (sequence : BitVec 32)
  | cut (tag kind : Byte) (lanes : Half) (first : BitVec 32) (last : Option (BitVec 32))
  | cutClose (tag id : Byte)
  | cutRead (tag id : Byte)
  | cutList (tag position : Byte)
  | watchSet (tag slot : Byte) (fields : WatchFields)
  | watchArm (tag slot : Byte)
  | watchDisarm (tag slot : Byte)
  | watchRead (tag slot : Byte)
  | clipGrab (tag clip : Byte) (first : BitVec 32) (count : Byte)
  | clipClear (tag clip : Byte)
  | clipRead (tag clip position : Byte)
  | panelSet (tag panel : Byte) (span lanes : Half) (buttons preroll : Byte)
  | panelRestore (tag panel : Byte)
  | panelRead (tag panel : Byte)
  | settingsSave (tag : Byte) (fields : Option SaveFields)
  | settingsDefault (tag : Byte)
  -- panel lines
  | panelByteReceived (p : PanelId) (b : Byte)
  | panelGapExpiry (p : PanelId)
  | tallySent (p : PanelId)
  -- ingest port
  | sourceLost
  | sourceReturned
  | referenceLost
  | referenceReturned
  | referenceFrameTime
  | frameStart (timecode : Option RawTimecode)
  | sectionData (piece : Piece)
  | frameEnd
  -- store port
  | storeReadError (reader : Reader)
  | fillerReadError (o : OutletId)
  -- output ports
  | periodStart (o : OutletId)
  | quarterBoundary (o : OutletId) (quarter : BitVec 2)
  | sinkLost (o : OutletId)
  | sinkReturned (o : OutletId)
  -- inside the part
  | adjustmentFallsDue (o : OutletId)
  | holdLimitClose
  | watchCut
  | retarget (o : OutletId)
  | copyPageDone
  deriving DecidableEq, Repr

end Sys2Proof
end

