-- ==== Sys2Proof/WellFormed.lean ====
section
/-! DEFINITION. The commands a sender may send that keeps to the manual. The part answers the others too: a request
with tag 0 is answered BadValue (R174), so these checks guard no meaning. -/

namespace Sys2Proof

/-- The tag of a request row; none for an event. -/
def Instr.tag? : Instr → Option Byte
  | .powerOnReset _ => none
  | .loadEnd _ => none
  | .saveWriteEnd _ => none
  | .controlByteReceived _ => none
  | .controlGapExpiry => none
  | .transmitEnd _ => none
  | .status t => some t
  | .reset t => some t
  | .outletStart t _ _ _ => some t
  | .outletStop t _ => some t
  | .outletTarget t _ _ => some t
  | .outletFloor t _ _ => some t
  | .floorUnlock t _ _ => some t
  | .outletShape t _ _ _ => some t
  | .outletClip t _ _ => some t
  | .outletRead t _ _ => some t
  | .ingestStart t => some t
  | .ingestStop t => some t
  | .ingestRate t _ => some t
  | .ingestPause t _ => some t
  | .retainSet t _ => some t
  | .frameRead t _ => some t
  | .cut t _ _ _ _ => some t
  | .cutClose t _ => some t
  | .cutRead t _ => some t
  | .cutList t _ => some t
  | .watchSet t _ _ => some t
  | .watchArm t _ => some t
  | .watchDisarm t _ => some t
  | .watchRead t _ => some t
  | .clipGrab t _ _ _ => some t
  | .clipClear t _ => some t
  | .clipRead t _ _ => some t
  | .panelSet t _ _ _ _ _ => some t
  | .panelRestore t _ => some t
  | .panelRead t _ => some t
  | .settingsSave t _ => some t
  | .settingsDefault t => some t
  | .panelByteReceived _ _ => none
  | .panelGapExpiry _ => none
  | .tallySent _ => none
  | .sourceLost => none
  | .sourceReturned => none
  | .referenceLost => none
  | .referenceReturned => none
  | .referenceFrameTime => none
  | .frameStart _ => none
  | .sectionData _ => none
  | .frameEnd => none
  | .storeReadError _ => none
  | .fillerReadError _ => none
  | .periodStart _ => none
  | .quarterBoundary _ _ => none
  | .sinkLost _ => none
  | .sinkReturned _ => none
  | .adjustmentFallsDue _ => none
  | .holdLimitClose => none
  | .watchCut => none
  | .retarget _ => none
  | .copyPageDone => none

/-- The tag is chosen by the host from 1 to 255 (R175). -/
def Instr.tagChosen (i : Instr) : Bool :=
  match i.tag? with
  | none => true
  | some t => t != 0

/-- The port signals quarters 1, 2 and 3 (R58). -/
def Instr.quarterSignalled (i : Instr) : Bool :=
  match i with
  | .quarterBoundary _ q => q != 0
  | _ => true

/-- A command of a sender that keeps to the manual. -/
def Instr.wellFormed (i : Instr) : Bool := i.tagChosen && i.quarterSignalled

end Sys2Proof
end

