-- ==== Sys2Proof/Machine/State.lean ====
section
/-! DEFINITION. The state of the part, block by block, as plain data; the reasons a step can stop; and the machine
right after reset. -/

namespace Sys2Proof.Machine

/-! ## The store -/

/-- Whether a timecode came with the program or was made by the Ingest Unit (R5). -/
inductive TimecodeSource where
  | carried
  | synthesized
  deriving DecidableEq, Repr

/-- A timecode, hh:mm:ss:ff, with its source (R5). -/
structure Timecode where
  hh : Nat
  mm : Nat
  ss : Nat
  ff : Nat
  source : TimecodeSource
  deriving DecidableEq, Repr

/-- A frame's condition, in the order of its layout (R6, R196). -/
inductive Condition where
  | whole
  | damaged
  | empty
  deriving DecidableEq, Repr

/-- The pause mark with the A1 peak in whole dBFS, −96 to 0 (R5, R38). -/
structure PauseMark where
  isPause : Bool
  peak : Int
  deriving DecidableEq, Repr

/-- One page of a chain: the lane whose data it holds and the bytes in it, at most 16,384 (R1, R33).  Which page of
the pool it is cannot be seen from outside (R2). -/
structure Page where
  lane : Lane
  data : List Byte
  deriving DecidableEq, Repr

/-- A frame record (R5).  Its state is its place: the Filling frame or the Held frames of the store. -/
structure Frame where
  /-- The frame's number. -/
  seq : Nat
  /-- Absent while not yet decided. -/
  timecode : Option Timecode
  /-- The chain, in the order the data arrived. -/
  pages : List Page
  /-- Lanes present. -/
  lanes : LaneMask
  condition : Condition
  /-- Absent while not yet decided. -/
  pause : Option PauseMark
  cues : List Half
  captions : List Byte
  /-- The outlets that have still to take this frame. -/
  owing : OutletSet
  /-- The number of outlets whose frame in flight is this frame. -/
  emitting : Nat
  grabHold : Bool
  deriving DecidableEq, Repr

/-- The Frame Ring: the Held frames, oldest first, and the Filling frame (R4). -/
structure FrameStore where
  held : List Frame
  filling : Option Frame
  deriving DecidableEq, Repr

/-! ## The Ingest Unit -/

/-- The states of ingest (R26, R195). -/
inductive IngestState where
  | stopped
  | running
  | bridging
  | unclocked
  deriving DecidableEq, Repr

/-- The causes of a change of ingest state (R26). -/
inductive IngestCause where
  | none
  | start
  | stop
  | sourceLost
  | sourceReturned
  | referenceLost
  | referenceReturned
  | sequenceEnd
  deriving DecidableEq, Repr

/-- What the unit keeps of an open frame with a record: the lane in progress, whether the frame is truncated, and the
timecode its frame start carried (R26, R31).  The bytes used in the chain's last page are that page's length. -/
structure FillState where
  lane : Option Lane
  truncated : Bool
  carried : Option RawTimecode
  deriving DecidableEq, Repr

/-- The port frame (R26). -/
inductive PortFrame where
  | closed
  | withRecord (fill : FillState)
  | withoutRecord
  deriving DecidableEq, Repr

/-- The ingest record (R26).  The frame rate and the pause settings are in the current settings. -/
structure IngestUnit where
  state : IngestState
  cause : IngestCause
  /-- The ingest mark I, 0 to 4,294,967,296. -/
  mark : Nat
  port : PortFrame
  tracker : Option Timecode
  source : Presence
  reference : Presence
  completed : Counter
  damaged : Counter
  bridged : Counter
  refused : Counter
  deriving DecidableEq, Repr

/-! ## The Outlet Units -/

/-- The states of an outlet (R48, R195). -/
inductive OutletState where
  | off
  | holding
  | rebuilding
  | steady
  | squeezing
  | stopping
  deriving DecidableEq, Repr

/-- The frame in flight (R46). -/
inductive InFlight where
  | none
  | program (n : Nat)
  | again (n : Nat)
  | filler (clip : ClipId) (position : Nat)
  | black
  deriving DecidableEq, Repr

/-- The kind of the last frame in flight to end (R46). -/
inductive Emission where
  | none
  | program
  | filler
  deriving DecidableEq, Repr

/-- The ten counters of an outlet (R74). -/
structure OutletCounters where
  emitted : Counter
  skipped : Counter
  covered : Counter
  mutedQuarters : Counter
  inserted : Counter
  removed : Counter
  forced : Counter
  filler : Counter
  underruns : Counter
  pressed : Counter
  deriving DecidableEq, Repr

/-- The outlet record (R46).  Target, floor, tolerance, spacing and clip are in the current settings. -/
structure Outlet where
  state : OutletState
  /-- The read mark N. -/
  readMark : Nat
  spacingCount : Nat
  deferred : Nat
  /-- Exposure permitted. -/
  exposure : Bool
  inFlight : InFlight
  /-- The quarter of the period now leaving, 0 to 3. -/
  quarter : BitVec 2
  lastEmission : Emission
  /-- The last program frame emitted. -/
  lastProgram : Option Nat
  clipPosition : Nat
  /-- Floor unlock is Open. -/
  unlockOpen : Bool
  /-- The underrun episode. -/
  episode : Bool
  sink : Presence
  /-- Frames missed, 0 to 65,535. -/
  missed : Nat
  counters : OutletCounters
  /-- The mute lanes settled for the quarter now leaving (R59). -/
  muteLanes : LaneMask
  /-- A read error has ended the page data of this period (R21, R22). -/
  dataLost : Bool
  deriving DecidableEq, Repr

/-! ## The Cut Table -/

/-- The kinds of cut (R94, R196). -/
inductive CutKind where
  | drop
  | cover
  | mute
  deriving DecidableEq, Repr

/-- Where the request that made a record came from (R94). -/
inductive Origin where
  | panel (p : PanelId)
  | link
  | watch (slot : SlotId)
  deriving DecidableEq, Repr

/-- How a record has gone in one outlet (R94, R113). -/
inductive CutOutcome where
  | idle
  | ahead
  | inside
  | done
  | partly
  | tooLate
  | stopped
  deriving DecidableEq, Repr

/-- A cut record (R94).  It is open while `last` is absent. -/
structure CutRecord where
  id : Nat
  kind : CutKind
  lanes : LaneMask
  first : Nat
  last : Option Nat
  leastLast : Option Nat
  holders : HolderSet
  origin : Origin
  outcomes : Vector CutOutcome 4
  deriving DecidableEq, Repr

/-- The Cut Table: the records in table order and the next id (R94, R95). -/
structure CutTable where
  records : List CutRecord
  nextId : Nat
  deriving DecidableEq, Repr

/-- A record while the Cut Table joins records in one event: with the highest frame it covered just before the event,
if it was open then (R111), and whether the range asked for in this event is in it (R98). -/
structure Draft where
  record : CutRecord
  before : Option Nat
  asked : Bool
  deriving DecidableEq, Repr

/-- A creation request after its range has been found (R98). -/
structure CutRequest where
  kind : CutKind
  lanes : LaneMask
  first : Nat
  last : Option Nat
  /-- The requester as a holder, for an open request. -/
  holders : HolderSet
  origin : Origin
  deriving DecidableEq, Repr

/-! ## Result codes -/

/-- The result codes (R176, R193). -/
inductive ResultCode where
  | done
  | merged
  | widened
  | clipped
  | unknown
  | badLength
  | badValue
  | notReady
  | busy
  | stateWrong
  | slotBusy
  | tableFull
  | clipInUse
  | locked
  | badKey
  | outOfStore
  | noSpace
  | nothing
  | alreadyClosed
  deriving DecidableEq, Repr

/-- The Cut Table's answer to a creation request: the result and, unless it is a refusal, the resulting record with
its table position (absent once the record has left the table) (R99). -/
structure CutAnswer where
  code : ResultCode
  record : Option (CutRecord × Option Nat)
  deriving DecidableEq, Repr

/-- The Cut Table's answer to a let go request that found a hold: the record's id, and whether it closed (R109). -/
structure LetGoAnswer where
  id : Nat
  closed : Bool
  deriving DecidableEq, Repr

/-! ## The Watch Unit -/

/-- The states of a slot (R141). -/
inductive SlotState where
  | disabled
  | armed
  | spent
  deriving DecidableEq, Repr

/-- The kind of item a slot looks at (R140). -/
inductive WatchSource where
  | cue
  | timecode
  deriving DecidableEq, Repr

/-- Whether a slot becomes Spent after a take (R140). -/
inductive WatchMode where
  | once
  | repeating
  deriving DecidableEq, Repr

/-- What a slot does after a take (R140). -/
inductive WatchAction where
  | report
  | cut (kind : CutKind) (lanes : LaneMask) (pre post : Nat)
  | retarget (outlets : OutletSet) (target : Nat)
  deriving DecidableEq, Repr

/-- A slot's configuration (R140).  Fields its source does not use are kept as given. -/
structure WatchConfig where
  source : WatchSource
  pattern : Half
  mask : Half
  timecode : RawTimecode
  /-- The compare flags: bit 0 hh to bit 3 ff (R192). -/
  compare : BitVec 4
  mode : WatchMode
  action : WatchAction
  deriving DecidableEq, Repr

/-- What a slot took: the frame, its timecode, and the cue word of a cue item (R139). -/
structure Capture where
  seq : Nat
  timecode : Timecode
  cue : Option Half
  deriving DecidableEq, Repr

/-- How a slot's latest action went (R139). -/
inductive ActionResult where
  | none
  | pending
  | taken
  | merged
  | widened
  | clipped
  | refused (code : ResultCode)
  deriving DecidableEq, Repr

/-- The result detail (R139). -/
inductive ResultDetail where
  | none
  | record (id : Nat)
  | code (c : ResultCode)
  | outlets (set : OutletSet)
  deriving DecidableEq, Repr

/-- A watch slot (R139). -/
structure Slot where
  state : SlotState
  config : Option WatchConfig
  capture : Option Capture
  lost : Bool
  result : ActionResult
  detail : ResultDetail
  deriving DecidableEq, Repr

/-- An entry of the action queue (R147): for a Retarget, `waiting` are the outlets still to answer and `clipped` those
that answered Clipped (R149). -/
structure ActionEntry where
  slot : SlotId
  capture : Capture
  /-- Whether the take set lost. -/
  lost : Bool
  action : WatchAction
  current : Bool
  waiting : OutletSet
  clipped : OutletSet
  deriving DecidableEq, Repr

/-- The Watch Unit (R139, R147). -/
structure WatchUnit where
  slots : Vector Slot 16
  queue : List ActionEntry
  deriving DecidableEq, Repr

/-! ## The Filler Bank -/

/-- The states of a clip (R159). -/
inductive ClipState where
  | empty
  | grabbing
  | ready
  deriving DecidableEq, Repr

/-- The condition of a filler frame (R158). -/
inductive FillerCondition where
  | whole
  | empty
  deriving DecidableEq, Repr

/-- A filler frame record of a clip (R158). -/
structure FillerFrame where
  source : Nat
  pages : List Page
  lanes : LaneMask
  condition : FillerCondition
  deriving DecidableEq, Repr

/-- A clip record (R157). -/
structure Clip where
  state : ClipState
  sourceFirst : Option Nat
  count : Nat
  frames : List FillerFrame
  copied : Nat
  users : OutletSet
  deriving DecidableEq, Repr

/-- The copy engine (R157). -/
inductive CopyEngine where
  | idle
  | copying (clip : ClipId) (frame : Nat) (pages : Nat)
  deriving DecidableEq, Repr

/-- The causes of an abort (R164). -/
inductive AbortCause where
  | evicted
  | readError
  | noSpace
  | cleared
  | reset
  deriving DecidableEq, Repr

/-- The last grab (R157). -/
inductive LastGrab where
  | none
  | done (clip : ClipId)
  | aborted (clip : ClipId) (cause : AbortCause) (copied : Nat)
  deriving DecidableEq, Repr

/-- The Filler Bank (R157). -/
structure FillerBank where
  clips : Vector Clip 8
  engine : CopyEngine
  lastGrab : LastGrab
  deriving DecidableEq, Repr

/-! ## The Panel Lines -/

/-- The receiver of a line: between packets, or inside one with the bytes since SYNC, LENGTH first (R123, R171). -/
inductive Receiver where
  | idle
  | inPacket (bytes : List Byte)
  deriving DecidableEq, Repr

/-- A panel's standing (R133, R197). -/
inductive Standing where
  | active
  | warned
  | isolated
  deriving DecidableEq, Repr

/-- The four buttons (R122, R191). -/
inductive Button where
  | drop
  | dropAll
  | mute
  | cover
  deriving DecidableEq, Repr

/-- The two button messages (R122). -/
inductive PanelMessage where
  | press
  | letGo
  deriving DecidableEq, Repr

/-- What a button message came to (R126, R129, R197). -/
inductive PressResult where
  | taken (id : Nat)
  | merged (id : Nat)
  | widened (id : Nat)
  | ignored
  | refused (code : ResultCode)
  deriving DecidableEq, Repr

/-- The last result of a panel (R122). -/
structure LastResult where
  button : Button
  message : PanelMessage
  result : PressResult
  deriving DecidableEq, Repr

/-- The transmitter of a panel line, with the body of the tally being sent (R122). -/
inductive TallyTransmitter where
  | idle
  | sending (body : List Byte)
  deriving DecidableEq, Repr

/-- The panel record (R122).  Span, MUTE lanes, enabled buttons and preroll are in the current settings. -/
structure Panel where
  receiver : Receiver
  standing : Standing
  errorCount : Nat
  muteLamp : Bool
  coverLamp : Bool
  lastResult : Option LastResult
  packetsTaken : Byte
  transmitter : TallyTransmitter
  tallyOwed : Bool
  good : Counter
  badCheck : Counter
  badLength : Counter
  badGap : Counter
  discarded : Counter
  deriving DecidableEq, Repr

/-! ## The Control Link -/

/-- The cause of the last reset (R170). -/
inductive ResetCause where
  | powerOn
  | soft
  deriving DecidableEq, Repr

/-- How a load ended (R186, R195). -/
inductive LoadResult where
  | good
  | check
  | range
  | read
  deriving DecidableEq, Repr

/-- The notices, with what each carries (the notice table of the Control Link chapter). -/
inductive Notice where
  | restarted (cause : ResetCause)
  | settingsDefaulted (cause : LoadResult)
  | saveDone (check : Half)
  | saveFailed
  | ingestState (new left : IngestState) (cause : IngestCause) (mark : Nat)
  | ingestRefused (mark : Nat)
  | frameDamaged (n : Nat) (reader : Reader)
  | outletState (o : OutletId) (left new : OutletState) (depth : Nat)
  | exposed (o : OutletId) (floor : Nat)
  | underrun (o : OutletId) (n : Nat)
  | pressed (o : OutletId) (victim : Nat) (n : Nat)
  | rejoined (o : OutletId) (passed : Nat)
  | cutClosed (id : Nat) (kind : CutKind) (lanes : LaneMask) (origin : Origin) (first last : Nat)
      (outcomes : Vector CutOutcome 4)
  | holdTimedOut (id : Nat) (kind : CutKind) (first last : Nat) (removed : HolderSet)
  | watchCapture (slot : SlotId) (capture : Capture) (lost : Bool) (result : ActionResult) (detail : ResultDetail)
  | grabDone (clip : ClipId) (first count pages : Nat)
  | grabAborted (clip : ClipId) (cause : AbortCause) (copied frame : Nat)
  | panelStanding (p : PanelId) (left new : Standing) (errorCount : Nat)
  deriving DecidableEq, Repr

/-- The transmitter of the control link (R170).  The reply being sent is the one in the reply slot; a notice has left
the queue when its sending begins (R177). -/
inductive Transmitter where
  | idle
  | sendingReply
  | sendingNotice (n : Notice)
  deriving DecidableEq, Repr

/-- The kind of the packet sent last (R170). -/
inductive LastSent where
  | none
  | reply
  | notice
  deriving DecidableEq, Repr

/-- The link record (R170).  Packets are held as their bodies. -/
structure Link where
  rate : Baud
  receiver : Receiver
  buffer : List (List Byte)
  reply : Option (List Byte)
  transmitter : Transmitter
  lastSent : LastSent
  notices : List Notice
  lostNotice : Bool
  resetCause : ResetCause
  discarded : Counter
  overrun : Counter
  pendingReset : Bool
  deriving DecidableEq, Repr

/-! ## The Settings Store -/

/-- One outlet's part of the settings (R185). -/
structure OutletSettings where
  target : Nat
  floor : Nat
  tolerance : Nat
  spacing : Nat
  clip : ClipId
  autostart : Bool
  deriving DecidableEq, Repr

/-- One panel's part of the settings (R185). -/
structure PanelSettings where
  span : Nat
  lanes : LaneMask
  buttons : ButtonSet
  preroll : Nat
  deriving DecidableEq, Repr

/-- The settings of R185. -/
structure Settings where
  rate : Nat
  retention : Nat
  threshold : Int
  pauseCue : Half
  cueEnable : Bool
  outlets : Vector OutletSettings 4
  panels : Vector PanelSettings 4
  holdLimit : Nat
  floorKey : Half
  ingestAuto : Bool
  deriving DecidableEq, Repr

/-- The profile in the serial flash: its words, or left unsound by a write that failed or was abandoned (R188, R190). -/
inductive Flash where
  | words (ws : List Half)
  | unsound
  deriving DecidableEq, Repr

/-- The save state, with the snapshot being written (R188). -/
inductive SaveState where
  | idle
  | writing (snapshot : List Half)
  deriving DecidableEq, Repr

/-- The Settings Store (R185 to R188). -/
structure SettingsStore where
  current : Settings
  flash : Flash
  /-- Ready; clear while Loading. -/
  ready : Bool
  save : SaveState
  /-- Absent until the load that follows the reset has ended. -/
  lastLoad : Option LoadResult
  deriving DecidableEq, Repr

/-! ## The part -/

/-- The state of the part, and the queue of the commands that wait. -/
structure State where
  store : FrameStore
  ingest : IngestUnit
  outlets : Vector Outlet 4
  cuts : CutTable
  watch : WatchUnit
  bank : FillerBank
  panels : Vector Panel 4
  link : Link
  settings : SettingsStore
  pending : List Instr
  deriving DecidableEq, Repr

/-- The reasons a command can stop the part.  There are none: the manual answers every request with a result code
and gives every event an effect, so no command faults. -/
inductive Fault where
  deriving DecidableEq, Repr

/-- The reasons a command can be refused. -/
inductive Refusal where
  /-- Raised by an arm of `exec` for a command that has no meaning yet, by its mnemonic.  Safe: the model says
  nothing of that command. -/
  | notModelled (mnemonic : String)
  deriving DecidableEq, Repr

/-! ## Reset -/

/-- The factory settings of one outlet (R185). -/
def OutletSettings.factory : OutletSettings :=
  { target := 210, floor := 150, tolerance := 2, spacing := 12, clip := 0, autostart := false }

/-- The factory settings of one panel: the MUTE lanes are A1 to A8 and C (R185). -/
def PanelSettings.factory : PanelSettings :=
  { span := 90, lanes := 0x3fe#10, buttons := 0xf#4, preroll := 6 }

/-- The factory values (R185). -/
def Settings.factory : Settings :=
  { rate := 30, retention := 300, threshold := -45, pauseCue := 0, cueEnable := false
    outlets := Vector.replicate 4 OutletSettings.factory
    panels := Vector.replicate 4 PanelSettings.factory
    holdLimit := 150, floorKey := 0, ingestAuto := false }

/-- Ten counters of 0 (R74). -/
def OutletCounters.zero : OutletCounters :=
  { emitted := 0, skipped := 0, covered := 0, mutedQuarters := 0, inserted := 0, removed := 0, forced := 0
    filler := 0, underruns := 0, pressed := 0 }

/-- An outlet after either reset, its sink as the port reports it (R46). -/
def Outlet.afterReset (sink : Presence) : Outlet :=
  { state := .off, readMark := 0, spacingCount := 0, deferred := 0, exposure := false, inFlight := .none
    quarter := 0, lastEmission := .none, lastProgram := none, clipPosition := 0, unlockOpen := false
    episode := false, sink := sink, missed := 0, counters := OutletCounters.zero, muteLanes := 0
    dataLost := false }

/-- A watch slot after either reset (R139). -/
def Slot.afterReset : Slot :=
  { state := .disabled, config := none, capture := none, lost := false, result := .none, detail := .none }

/-- An Empty clip (R157). -/
def Clip.emptied : Clip :=
  { state := .empty, sourceFirst := none, count := 0, frames := [], copied := 0, users := 0 }

/-- A panel record after either reset (R122). -/
def Panel.afterReset : Panel :=
  { receiver := .idle, standing := .active, errorCount := 0, muteLamp := false, coverLamp := false
    lastResult := none, packetsTaken := 0, transmitter := .idle, tallyOwed := false, good := 0, badCheck := 0
    badLength := 0, badGap := 0, discarded := 0 }

/-- The link record after either reset (R170). -/
def Link.afterReset (cause : ResetCause) (rate : Baud) : Link :=
  { rate := rate, receiver := .idle, buffer := [], reply := none, transmitter := .idle, lastSent := .none
    notices := [.restarted cause], lostNotice := false, resetCause := cause, discarded := 0, overrun := 0
    pendingReset := false }

/-- The ingest record after either reset, its conditions as the port reports them (R26). -/
def IngestUnit.afterReset (source reference : Presence) : IngestUnit :=
  { state := .stopped, cause := .none, mark := 0, port := .closed, tracker := none, source := source
    reference := reference, completed := 0, damaged := 0, bridged := 0, refused := 0 }

/-- The Settings Store after either reset: Loading, with the factory values (R185, R186). -/
def SettingsStore.afterReset (flash : Flash) : SettingsStore :=
  { current := Settings.factory, flash := flash, ready := false, save := .idle, lastLoad := none }

/-- The part after a reset (R190): what the ports and straps report, what the flash holds, what the last grab became
(R169), and the commands that wait, which no reset touches. -/
def State.afterReset (cause : ResetCause) (ports : PortReport) (flash : Flash) (grab : LastGrab)
    (pending : List Instr) : State :=
  { store := { held := [], filling := none }
    ingest := IngestUnit.afterReset ports.source ports.reference
    outlets := ports.sinks.map Outlet.afterReset
    cuts := { records := [], nextId := 1 }
    watch := { slots := Vector.replicate 16 Slot.afterReset, queue := [] }
    bank := { clips := Vector.replicate 8 Clip.emptied, engine := .idle, lastGrab := grab }
    panels := Vector.replicate 4 Panel.afterReset
    link := Link.afterReset cause ports.straps
    settings := SettingsStore.afterReset flash
    pending := pending }

/-- What the ports and straps report at `State.reset`: DESIGN CHOICE, unsafe (log entry 5). -/
def PortReport.atReset : PortReport :=
  { source := .present, reference := .present, sinks := Vector.replicate 4 .present, straps := .b57600 }

/-- A blank flash: 49 words of FFFFh (R185).  That it is blank at `State.reset` is a DESIGN CHOICE, unsafe (log entry
5). -/
def Flash.blank : Flash := .words (List.replicate 49 0xffff#16)

/-- The machine right after a power-on reset. -/
def State.reset : State :=
  State.afterReset .powerOn PortReport.atReset Flash.blank .none []

end Sys2Proof.Machine
end

