-- ==== Sys2Proof/Machine/Operands.lean ====
section
/-! DEFINITION. Fields as bytes and bytes as fields (R191), packets as bytes (R123, R171), and the bodies of the host's
requests (R192). -/

namespace Sys2Proof.Machine

/-! ## Numbers -/

/-- `k` bytes of a number, low byte first (R191). -/
def le : Nat → Nat → List Byte
  | 0, _ => []
  | k + 1, n => BitVec.ofNat 8 n :: le k (n / 256)

/-- The number that bytes spell, low byte first (R191). -/
def fromLe : List Byte → Nat
  | [] => 0
  | b :: rest => b.toNat + 256 * fromLe rest

/-- A number up to 255, an enumeration (R191). -/
def u8 (n : Nat) : List Byte := le 1 n

/-- A number up to 65,535 (R191). -/
def u16 (n : Nat) : List Byte := le 2 n

/-- A sequence number, a counter of 32 bits, the page count of the pool (R191). -/
def u32 (n : Nat) : List Byte := le 4 n

/-- A mark (I, N): the fifth byte is 1 for 4,294,967,296 (R191). -/
def markBytes (n : Nat) : List Byte := le 5 n

/-- A level in dBFS or a threshold: two's complement (R191). -/
def levelByte (x : Int) : List Byte := [BitVec.ofInt 8 x]

/-- Yes or no (R191). -/
def flag (b : Bool) : List Byte := if b then [1] else [0]

/-- An optional value whose bytes number `k`: a presence byte, then the value's bytes, or zeros (R191). -/
def optional (k : Nat) (x : Option (List Byte)) : List Byte :=
  match x with
  | some bytes => 1 :: bytes
  | none => 0 :: List.replicate k 0

/-- A 16-bit field from its two bytes (R191). -/
def half (lo hi : Byte) : Half := BitVec.ofNat 16 (fromLe [lo, hi])

/-- A 32-bit field from its four bytes (R191). -/
def word32 (a b c d : Byte) : BitVec 32 := BitVec.ofNat 32 (fromLe [a, b, c, d])

/-- The lanes of a mask as received: bits 10 to 15 are ignored (R191). -/
def lanesOf (h : Half) : LaneMask := h.setWidth 10

/-- A set of outlets as received: bits 4 to 7 are ignored (R191). -/
def outletsOf (b : Byte) : OutletSet := b.setWidth 4

/-- A set of buttons as received (R191). -/
def buttonsOf (b : Byte) : ButtonSet := b.setWidth 4

/-- Yes or no as received; any other byte names no value (R191, log entry 20). -/
def yesNo (b : Byte) : Option Bool :=
  if b = 0 then some false else if b = 1 then some true else none

/-- A byte below `n` as the number of an outlet, a panel, a slot or a clip. -/
def index (n : Nat) (b : Byte) : Option (Fin n) :=
  if h : b.toNat < n then some ⟨b.toNat, h⟩ else none

/-- A cut kind as received (R192, R196). -/
def kindOf (b : Byte) : Option CutKind :=
  if b = 0 then some .drop else if b = 1 then some .cover else if b = 2 then some .mute else none

/-! ## Sets -/

/-- Whether a set holds member `i`. -/
def member {w : Nat} (m : BitVec w) (i : Nat) : Bool := m.getLsbD i

/-- The set of member `i` alone. -/
def only (w i : Nat) : BitVec w := BitVec.twoPow w i

/-- A set with member `i`. -/
def insertBit {w : Nat} (m : BitVec w) (i : Nat) : BitVec w := m ||| only w i

/-- A set without member `i`. -/
def removeBit {w : Nat} (m : BitVec w) (i : Nat) : BitVec w := m &&& ~~~ only w i

/-- All ten lanes (R94). -/
def allLanes : LaneMask := 0x3ff#10

/-- Lane P. -/
def laneP : Lane := 0

/-- Lane A1. -/
def laneA1 : Lane := 1

/-- Lane C. -/
def laneC : Lane := 9

/-- The lane of audio track `track + 1`. -/
def audioLane (track : Fin 8) : Lane := ⟨track.val + 1, by omega⟩

/-- The control link as a holder (R191). -/
def linkHolder : HolderSet := only 5 4

/-- Panel `p` as a holder (R191). -/
def panelHolder (p : PanelId) : HolderSet := only 5 p.val

/-! ## Packets -/

/-- SYNC (R192). -/
def sync : Byte := 0xa5

/-- How a packet ends (R123, R171). -/
inductive PacketEnd where
  | good (body : List Byte)
  | badLength
  | badCheck
  deriving DecidableEq, Repr

/-- The sum of bytes modulo 256. -/
def byteSum (bytes : List Byte) : Byte := bytes.foldr (· + ·) 0

/-- One byte at a receiver that refuses a LENGTH above `limit` (R123, R171): the receiver after it, and how the packet
ended if it did. -/
def receive (limit : Nat) (r : Receiver) (b : Byte) : Receiver × Option PacketEnd :=
  match r with
  | .idle => if b = sync then (.inPacket [], none) else (.idle, none)
  | .inPacket [] =>
    if b.toNat = 0 ∨ limit < b.toNat then (.idle, some .badLength) else (.inPacket [b], none)
  | .inPacket (len :: body) =>
    if body.length < len.toNat then (.inPacket (len :: (body ++ [b])), none)
    else if byteSum (len :: (body ++ [b])) = 0 then (.idle, some (.good body))
    else (.idle, some .badCheck)

/-- The CHECK byte of a body: LENGTH, body and CHECK sum to 0 modulo 256. -/
def checkByte (body : List Byte) : Byte := - byteSum (BitVec.ofNat 8 body.length :: body)

/-- A body as the packet that carries it: SYNC, LENGTH, body, CHECK. -/
def packet (body : List Byte) : List Byte :=
  sync :: BitVec.ofNat 8 body.length :: (body ++ [checkByte body])

/-! ## Requests -/

/-- A request of the host with its raw fields (R192). -/
inductive Request where
  | status
  | reset
  | outletStart (outlet mode : Byte) (k : Half)
  | outletStop (outlet : Byte)
  | outletTarget (outlet : Byte) (target : Half)
  | outletFloor (outlet : Byte) (floor : Half)
  | floorUnlock (outlet : Byte) (key : Half)
  | outletShape (outlet spacing tolerance : Byte)
  | outletClip (outlet clip : Byte)
  | outletRead (outlet clear : Byte)
  | ingestStart
  | ingestStop
  | ingestRate (rate : Byte)
  | ingestPause (fields : Option PauseFields)
  | retainSet (depth : Half)
  | frameRead (sequence : BitVec 32)
  | cut (kind : Byte) (lanes : Half) (first : BitVec 32) (present : Byte) (last : BitVec 32)
  | cutClose (id : Byte)
  | cutRead (id : Byte)
  | cutList (position : Byte)
  | watchSet (slot : Byte) (fields : WatchFields)
  | watchArm (slot : Byte)
  | watchDisarm (slot : Byte)
  | watchRead (slot : Byte)
  | clipGrab (clip : Byte) (first : BitVec 32) (count : Byte)
  | clipClear (clip : Byte)
  | clipRead (clip position : Byte)
  | panelSet (panel : Byte) (span lanes : Half) (buttons preroll : Byte)
  | panelRestore (panel : Byte)
  | panelRead (panel : Byte)
  | settingsSave (fields : Option SaveFields)
  | settingsDefault
  deriving DecidableEq, Repr

/-- The type byte of a request (R192). -/
def Request.type : Request → Byte
  | .status => 0x01
  | .outletStart _ _ _ => 0x10
  | .outletStop _ => 0x11
  | .outletTarget _ _ => 0x12
  | .outletFloor _ _ => 0x13
  | .floorUnlock _ _ => 0x14
  | .outletShape _ _ _ => 0x15
  | .outletClip _ _ => 0x16
  | .outletRead _ _ => 0x17
  | .ingestStart => 0x20
  | .ingestStop => 0x21
  | .ingestRate _ => 0x22
  | .ingestPause _ => 0x23
  | .retainSet _ => 0x28
  | .frameRead _ => 0x29
  | .cut _ _ _ _ _ => 0x30
  | .cutClose _ => 0x31
  | .cutRead _ => 0x32
  | .cutList _ => 0x33
  | .watchSet _ _ => 0x40
  | .watchArm _ => 0x41
  | .watchDisarm _ => 0x42
  | .watchRead _ => 0x43
  | .clipGrab _ _ _ => 0x50
  | .clipClear _ => 0x51
  | .clipRead _ _ => 0x52
  | .panelSet _ _ _ _ _ => 0x60
  | .panelRestore _ => 0x61
  | .panelRead _ => 0x62
  | .settingsSave _ => 0x70
  | .settingsDefault => 0x71
  | .reset => 0x7f

/-- The four timecode values and the compare flags are laid out as R192 states. -/
def rawTimecodeBytes (t : RawTimecode) : List Byte := [t.hh, t.mm, t.ss, t.ff]

/-- The fields of a request, in the order its rule names them (R192). -/
def Request.fields : Request → List Byte
  | .status => []
  | .reset => []
  | .outletStart o m k => [o, m] ++ u16 k.toNat
  | .outletStop o => [o]
  | .outletTarget o t => [o] ++ u16 t.toNat
  | .outletFloor o f => [o] ++ u16 f.toNat
  | .floorUnlock o k => [o] ++ u16 k.toNat
  | .outletShape o sp tol => [o, sp, tol]
  | .outletClip o c => [o, c]
  | .outletRead o c => [o, c]
  | .ingestStart => []
  | .ingestStop => []
  | .ingestRate r => [r]
  | .ingestPause none => []
  | .ingestPause (some f) => [f.threshold] ++ u16 f.cue.toNat ++ [f.enable]
  | .retainSet d => u16 d.toNat
  | .frameRead n => u32 n.toNat
  | .cut k l f p e => [k] ++ u16 l.toNat ++ u32 f.toNat ++ [p] ++ u32 e.toNat
  | .cutClose i => [i]
  | .cutRead i => [i]
  | .cutList p => [p]
  | .watchSet s w =>
    [s, w.source] ++ u16 w.pattern.toNat ++ u16 w.mask.toNat ++ rawTimecodeBytes w.timecode ++
      [w.compare, w.mode, w.action, w.kind] ++ u16 w.lanes.toNat ++ [w.pre, w.post, w.outlets] ++ u16 w.target.toNat
  | .watchArm s => [s]
  | .watchDisarm s => [s]
  | .watchRead s => [s]
  | .clipGrab c f n => [c] ++ u32 f.toNat ++ [n]
  | .clipClear c => [c]
  | .clipRead c p => [c, p]
  | .panelSet p sp l b pre => [p] ++ u16 sp.toNat ++ u16 l.toNat ++ [b, pre]
  | .panelRestore p => [p]
  | .panelRead p => [p]
  | .settingsSave none => []
  | .settingsSave (some f) => u16 f.holdLimit.toNat ++ u16 f.floorKey.toNat ++ [f.ingestAuto, f.outletAuto]
  | .settingsDefault => []

/-- The body of a request with its tag (R192). -/
def Request.body (tag : Byte) (r : Request) : List Byte := r.type :: tag :: r.fields

/-- The body lengths a type permits; none for a type that names no request (R192). -/
def bodyLengths (type : Byte) : List Nat :=
  match type.toNat with
  | 0x01 => [2]
  | 0x10 => [6]
  | 0x11 => [3]
  | 0x12 => [5]
  | 0x13 => [5]
  | 0x14 => [5]
  | 0x15 => [5]
  | 0x16 => [4]
  | 0x17 => [4]
  | 0x20 => [2]
  | 0x21 => [2]
  | 0x22 => [3]
  | 0x23 => [2, 6]
  | 0x28 => [4]
  | 0x29 => [6]
  | 0x30 => [14]
  | 0x31 => [3]
  | 0x32 => [3]
  | 0x33 => [3]
  | 0x40 => [23]
  | 0x41 => [3]
  | 0x42 => [3]
  | 0x43 => [3]
  | 0x50 => [8]
  | 0x51 => [3]
  | 0x52 => [4]
  | 0x60 => [9]
  | 0x61 => [3]
  | 0x62 => [3]
  | 0x70 => [2, 8]
  | 0x71 => [2]
  | 0x7f => [2]
  | _ => []

/-- The request of a type from its fields; none when their number is not one the type permits (R192). -/
def Request.decode (type : Byte) (fields : List Byte) : Option Request :=
  match type.toNat, fields with
  | 0x01, [] => some .status
  | 0x10, [o, m, k0, k1] => some (.outletStart o m (half k0 k1))
  | 0x11, [o] => some (.outletStop o)
  | 0x12, [o, t0, t1] => some (.outletTarget o (half t0 t1))
  | 0x13, [o, f0, f1] => some (.outletFloor o (half f0 f1))
  | 0x14, [o, k0, k1] => some (.floorUnlock o (half k0 k1))
  | 0x15, [o, sp, tol] => some (.outletShape o sp tol)
  | 0x16, [o, c] => some (.outletClip o c)
  | 0x17, [o, c] => some (.outletRead o c)
  | 0x20, [] => some .ingestStart
  | 0x21, [] => some .ingestStop
  | 0x22, [r] => some (.ingestRate r)
  | 0x23, [] => some (.ingestPause none)
  | 0x23, [t, c0, c1, e] => some (.ingestPause (some { threshold := t, cue := half c0 c1, enable := e }))
  | 0x28, [d0, d1] => some (.retainSet (half d0 d1))
  | 0x29, [n0, n1, n2, n3] => some (.frameRead (word32 n0 n1 n2 n3))
  | 0x30, [k, l0, l1, f0, f1, f2, f3, p, e0, e1, e2, e3] =>
    some (.cut k (half l0 l1) (word32 f0 f1 f2 f3) p (word32 e0 e1 e2 e3))
  | 0x31, [i] => some (.cutClose i)
  | 0x32, [i] => some (.cutRead i)
  | 0x33, [p] => some (.cutList p)
  | 0x40, [s, src, p0, p1, m0, m1, hh, mm, ss, ff, cmp, mode, act, kind, l0, l1, pre, post, set, t0, t1] =>
    some (.watchSet s
      { source := src, pattern := half p0 p1, mask := half m0 m1
        timecode := { hh := hh, mm := mm, ss := ss, ff := ff }, compare := cmp, mode := mode, action := act
        kind := kind, lanes := half l0 l1, pre := pre, post := post, outlets := set, target := half t0 t1 })
  | 0x41, [s] => some (.watchArm s)
  | 0x42, [s] => some (.watchDisarm s)
  | 0x43, [s] => some (.watchRead s)
  | 0x50, [c, f0, f1, f2, f3, n] => some (.clipGrab c (word32 f0 f1 f2 f3) n)
  | 0x51, [c] => some (.clipClear c)
  | 0x52, [c, p] => some (.clipRead c p)
  | 0x60, [p, s0, s1, l0, l1, b, pre] => some (.panelSet p (half s0 s1) (half l0 l1) b pre)
  | 0x61, [p] => some (.panelRestore p)
  | 0x62, [p] => some (.panelRead p)
  | 0x70, [] => some (.settingsSave none)
  | 0x70, [h0, h1, k0, k1, i, o] =>
    some (.settingsSave (some { holdLimit := half h0 h1, floorKey := half k0 k1, ingestAuto := i, outletAuto := o }))
  | 0x71, [] => some .settingsDefault
  | 0x7f, [] => some .reset
  | _, _ => none

end Sys2Proof.Machine
end

