-- ==== Sys2Proof/Machine/Flags.lean ====
section
/-! DEFINITION. The quantities and flags that the manual computes from the state: the edge, depths, free counts, the
exposed and drop ready flags, and which cut record covers or governs a frame. -/

namespace Sys2Proof.Machine

/-! ## Records by number -/

/-- Outlet `o`. -/
def State.outlet (s : State) (o : OutletId) : Outlet := s.outlets[o]

/-- Outlet `o`'s part of the current settings. -/
def State.outletCfg (s : State) (o : OutletId) : OutletSettings := s.settings.current.outlets[o]

/-- Panel line `p`. -/
def State.panel (s : State) (p : PanelId) : Panel := s.panels[p]

/-- Panel `p`'s part of the current settings. -/
def State.panelCfg (s : State) (p : PanelId) : PanelSettings := s.settings.current.panels[p]

/-- Watch slot `k`. -/
def State.slot (s : State) (k : SlotId) : Slot := s.watch.slots[k]

/-- Clip `c`. -/
def State.clip (s : State) (c : ClipId) : Clip := s.bank.clips[c]

/-- The four outlets or panels, in order. -/
def four : List (Fin 4) := [0, 1, 2, 3]

/-! ## The store -/

/-- The number of the oldest Held frame, if any (R4). -/
def State.oldestHeld (s : State) : Option Nat := s.store.held.head?.map Frame.seq

/-- The Held frame of number `n`, if there is one. -/
def State.heldFrame (s : State) (n : Nat) : Option Frame := s.store.held.find? (fun f => f.seq == n)

/-- Whether frame `n` is Held. -/
def State.isHeld (s : State) (n : Nat) : Bool := (s.heldFrame n).isSome

/-- Pages in a list of chains. -/
def chainTotal (chains : List (List Page)) : Nat := (chains.map List.length).sum

/-- Pages chained to frame records, Held or Filling (R1). -/
def FrameStore.pages (st : FrameStore) : Nat :=
  chainTotal (st.held.map Frame.pages) + (match st.filling with | some f => f.pages.length | none => 0)

/-- Pages a clip's filler frames hold (R167). -/
def Clip.pages (c : Clip) : Nat := chainTotal (c.frames.map FillerFrame.pages)

/-- Pages chained to filler frame records (R1). -/
def FillerBank.pages (b : FillerBank) : Nat := (b.clips.toList.map Clip.pages).sum

/-- The free count of the Page Pool (R1). -/
def State.freePages (s : State) : Nat := Config.poolPages - (s.store.pages + s.bank.pages)

/-- Frame records in use (R4). -/
def FrameStore.inUse (st : FrameStore) : Nat := st.held.length + (if st.filling.isSome then 1 else 0)

/-- Free filler frame records (R158). -/
def State.freeFillerRecords (s : State) : Nat :=
  Config.fillerRecords - (s.bank.clips.toList.map (fun c => c.frames.length)).sum

/-- The ingest edge E: the Filling frame's number, else I − 1, and absent when no frame is Held or filling (R42). -/
def State.edge (s : State) : Option Nat :=
  match s.store.filling with
  | some f => some f.seq
  | none => if s.store.held.isEmpty then none else some (s.ingest.mark - 1)

/-! ## Outlets -/

/-- Holding, Rebuilding, Steady and Squeezing are the running states ("States"). -/
def OutletState.running : OutletState → Bool
  | .off => false
  | .holding => true
  | .rebuilding => true
  | .steady => true
  | .squeezing => true
  | .stopping => false

/-- Rebuilding and Squeezing are the states in which an outlet makes adjustments (R80). -/
def OutletState.adjusts : OutletState → Bool
  | .off => false
  | .holding => false
  | .rebuilding => true
  | .steady => false
  | .squeezing => true
  | .stopping => false

/-- Whether outlet `o` is running. -/
def State.isRunning (s : State) (o : OutletId) : Bool := (s.outlet o).state.running

/-- The depth D = I − N of outlet `o` (R47). -/
def State.depth (s : State) (o : OutletId) : Nat := s.ingest.mark - (s.outlet o).readMark

/-- The depth as it is reported: 0 for an outlet that is Off or Stopping (R48, R75, R76). -/
def State.reportedDepth (s : State) (o : OutletId) : Nat := if s.isRunning o then s.depth o else 0

/-- The exposed flag: exposure permitted, and D below the floor (R76). -/
def State.exposed (s : State) (o : OutletId) : Bool :=
  (s.outlet o).exposure && decide (s.depth o < (s.outletCfg o).floor)

/-- The set of running outlets, which a completing frame's owing set takes (R9). -/
def State.runningSet (s : State) : OutletSet :=
  four.foldl (fun m o => if s.isRunning o then insertBit m o.val else m) 0

/-- |a − b|. -/
def gap (a b : Nat) : Nat := (a - b) + (b - a)

/-- The owed amount |target − D| (R80). -/
def State.owedAmount (s : State) (o : OutletId) : Nat := gap (s.outletCfg o).target (s.depth o)

/-- Drop ready for panel `p`: every running outlet has a depth of at least the span.  This is the definition of R132; what
its text says besides of frames in flight and of outcomes does not follow from it in every state (log entry 50). -/
def State.dropReady (s : State) (p : PanelId) : Bool :=
  four.all (fun o => !s.isRunning o || decide ((s.panelCfg p).span ≤ s.depth o))

/-- The program frame in flight, taken or repeated. -/
def flightFrame : InFlight → Option Nat
  | .none => none
  | .program n => some n
  | .again n => some n
  | .filler _ _ => none
  | .black => none

/-! ## Cut records -/

/-- The larger of two values that may be absent. -/
def maxOpt : Option Nat → Option Nat → Option Nat
  | none, b => b
  | a, none => a
  | some a, some b => some (max a b)

/-- Whether a record is open (R94). -/
def CutRecord.isOpen (r : CutRecord) : Bool := r.last.isNone

/-- The last frame a record covers, given the edge; absent when it covers no frame (R96). -/
def CutRecord.coveredEnd (edge : Option Nat) (r : CutRecord) : Option Nat :=
  match (match r.last with | some l => some l | none => maxOpt edge r.leastLast) with
  | some e => if r.first ≤ e then some e else none
  | none => none

/-- Whether a record covers frame `n` (R96). -/
def CutRecord.covers (edge : Option Nat) (r : CutRecord) (n : Nat) : Bool :=
  match r.coveredEnd edge with
  | some e => decide (r.first ≤ n) && decide (n ≤ e)
  | none => false

/-- Whether a Drop record covers frame `n`, and so governs it (R97). -/
def State.dropGoverns (s : State) (n : Nat) : Bool :=
  s.cuts.records.any (fun r => r.kind == .drop && r.covers s.edge n)

/-- Whether a Cover record covers frame `n` and no Drop does (R97). -/
def State.coverGoverns (s : State) (n : Nat) : Bool :=
  !s.dropGoverns n && s.cuts.records.any (fun r => r.kind == .cover && r.covers s.edge n)

/-- The joined lanes of the Mute records that cover frame `n` (R97). -/
def State.mutedLanes (s : State) (n : Nat) : LaneMask :=
  s.cuts.records.foldl (fun m r => if r.kind == .mute && r.covers s.edge n then m ||| r.lanes else m) 0

/-! ## Clips and slots -/

/-- The number of entries of slot `k` in the action queue (R151). -/
def State.entriesOf (s : State) (k : SlotId) : Nat := s.watch.queue.countP (fun e => e.slot == k)

end Sys2Proof.Machine
end

