-- ==== Sys2Proof/Machine/Ops.lean ====
section
/-! DEFINITION. The named operations on the state that every block uses: updates of one record, notices, the
transmitter, and the shape of an event. -/

namespace Sys2Proof.Machine

/-! ## Updates of one record -/

/-- Changes outlet `o`. -/
def State.modOutlet (s : State) (o : OutletId) (f : Outlet → Outlet) : State :=
  { s with outlets := s.outlets.set o.val (f (s.outlet o)) o.isLt }

/-- Changes the counters of outlet `o`. -/
def State.count (s : State) (o : OutletId) (f : OutletCounters → OutletCounters) : State :=
  s.modOutlet o (fun u => { u with counters := f u.counters })

/-- Changes the current settings. -/
def State.modSettings (s : State) (f : Settings → Settings) : State :=
  { s with settings := { s.settings with current := f s.settings.current } }

/-- Changes outlet `o`'s part of the current settings. -/
def State.modOutletCfg (s : State) (o : OutletId) (f : OutletSettings → OutletSettings) : State :=
  s.modSettings (fun c => { c with outlets := c.outlets.set o.val (f c.outlets[o]) o.isLt })

/-- Changes panel line `p`. -/
def State.modPanel (s : State) (p : PanelId) (f : Panel → Panel) : State :=
  { s with panels := s.panels.set p.val (f (s.panel p)) p.isLt }

/-- Changes panel `p`'s part of the current settings. -/
def State.modPanelCfg (s : State) (p : PanelId) (f : PanelSettings → PanelSettings) : State :=
  s.modSettings (fun c => { c with panels := c.panels.set p.val (f c.panels[p]) p.isLt })

/-- Changes watch slot `k`. -/
def State.modSlot (s : State) (k : SlotId) (f : Slot → Slot) : State :=
  { s with watch := { s.watch with slots := s.watch.slots.set k.val (f (s.slot k)) k.isLt } }

/-- Changes clip `c`. -/
def State.modClip (s : State) (c : ClipId) (f : Clip → Clip) : State :=
  { s with bank := { s.bank with clips := s.bank.clips.set c.val (f (s.clip c)) c.isLt } }

/-- Changes the ingest record. -/
def State.modIngest (s : State) (f : IngestUnit → IngestUnit) : State := { s with ingest := f s.ingest }

/-- Changes the link record. -/
def State.modLink (s : State) (f : Link → Link) : State := { s with link := f s.link }

/-- Changes the records of the Cut Table. -/
def State.setCuts (s : State) (records : List CutRecord) : State :=
  { s with cuts := { s.cuts with records := records } }

/-- Changes the Held frames. -/
def State.setHeld (s : State) (held : List Frame) : State := { s with store := { s.store with held := held } }

/-- Changes the Filling frame. -/
def State.setFilling (s : State) (filling : Option Frame) : State :=
  { s with store := { s.store with filling := filling } }

/-- Changes Held frame `n`; nothing when it is not Held. -/
def State.modFrame (s : State) (n : Nat) (f : Frame → Frame) : State :=
  s.setHeld (s.store.held.map (fun x => if x.seq = n then f x else x))

/-! ## Notices -/

/-- A notice joins the Notice Queue, or is lost and sets the lost-notice flag when the queue is full (R178). -/
def Link.post (l : Link) (n : Notice) : Link :=
  if l.notices.length < Config.noticeEntries then { l with notices := l.notices ++ [n] }
  else { l with lostNotice := true }

/-- A block posts a notice (R178). -/
def State.post (s : State) (n : Notice) : State := s.modLink (fun l => l.post n)

/-- Notices posted in order. -/
def State.postAll (s : State) (ns : List Notice) : State := ns.foldl State.post s

/-! ## The transmitter -/

/-- The sending of the reply begins (R177). -/
def Link.sendReply (l : Link) : Link := { l with transmitter := .sendingReply, lastSent := .reply }

/-- The sending of the oldest notice begins, and it leaves the queue (R177). -/
def Link.sendNotice (l : Link) (n : Notice) (rest : List Notice) : Link :=
  { l with transmitter := .sendingNotice n, lastSent := .notice, notices := rest }

/-- An Idle transmitter chooses the next packet: the one kind that waits, or when both wait the kind other than last
sent, a reply when none has been sent (R177). -/
def Link.choose (l : Link) : Link :=
  match l.transmitter with
  | .sendingReply => l
  | .sendingNotice _ => l
  | .idle =>
    match l.reply, l.notices with
    | none, [] => l
    | some _, [] => l.sendReply
    | none, n :: rest => l.sendNotice n rest
    | some _, n :: rest => if l.lastSent = .reply then l.sendNotice n rest else l.sendReply

/-- The transmitter starts if it is Idle and a packet waits. -/
def State.transmit (s : State) : State := s.modLink Link.choose

/-- One whole event: a packet that still waits for an Idle transmitter (after a reset, Restarted) begins to leave
before it (R183, log entry 3), and one that comes to wait in it is chosen at its end (R177, log entry 4). -/
def event (f : State → State) (s : State) : Host.Outcome State Fault Refusal :=
  .next (f s.transmit).transmit

/-! ## An owner's answer -/

/-- What an owner answers a request with: the result code, and the fields that follow it (R175). -/
structure Answer where
  code : ResultCode
  fields : List Byte
  deriving DecidableEq, Repr

/-- A refusal that carries no fields (R175). -/
def refuse (s : State) (c : ResultCode) : State × Answer := (s, { code := c, fields := [] })

/-- An answer of Done. -/
def done (s : State) (fields : List Byte) : State × Answer := (s, { code := .done, fields := fields })

end Sys2Proof.Machine
end

