-- ==== Sys2Proof/Machine/Cuts.lean ====
section
/-! DEFINITION. The Cut Table: outcomes, closing, retirement, joining, the hold limit, and the creation requests
(05_the_cut_table.md). -/

namespace Sys2Proof.Machine

/-! ## Outcomes -/

/-- Idle and Stopped: the outlet is not running through the record (R114). -/
def CutOutcome.notRunning : CutOutcome → Bool
  | .idle => true
  | .ahead => false
  | .inside => false
  | .done => false
  | .partly => false
  | .tooLate => false
  | .stopped => true

/-- Ahead and Inside: the outlet has not passed the record (R113). -/
def CutOutcome.underWay : CutOutcome → Bool
  | .idle => false
  | .ahead => true
  | .inside => true
  | .done => false
  | .partly => false
  | .tooLate => false
  | .stopped => false

/-- The outcome once the outlet has passed the record: Ahead becomes Done and Inside becomes Partial (R115). -/
def CutOutcome.passed : CutOutcome → CutOutcome
  | .idle => .idle
  | .ahead => .done
  | .inside => .partly
  | .done => .done
  | .partly => .partly
  | .tooLate => .tooLate
  | .stopped => .stopped

/-- Two outcomes combined at a merge or a widening: the rows of R114 in order, also where the joined record is a Drop or a
Cover that comes to cover the frame in flight, for which R57 names only Inside and TooLate (log entry 43). -/
def CutOutcome.combine (a b : CutOutcome) : CutOutcome :=
  if a.notRunning && b.notRunning then (if a = .stopped ∨ b = .stopped then .stopped else .idle)
  else if a.notRunning then b
  else if b.notRunning then a
  else if a = .ahead ∧ b = .ahead then .ahead
  else if a.underWay && b.underWay then .inside
  else if a = .done ∧ b = .done then .done
  else if a = .tooLate ∧ b = .tooLate then .tooLate
  else if !a.underWay && !b.underWay then .partly
  else if (a = .ahead ∧ b = .done) ∨ (a = .done ∧ b = .ahead) then .ahead
  else .inside

/-- Whether the frame in flight of outlet `o` is a program frame or a repeat of a frame that `r` covers (R113). -/
def State.airsCovered (s : State) (o : OutletId) (r : CutRecord) : Bool :=
  match flightFrame (s.outlet o).inFlight with
  | some n => r.covers s.edge n
  | none => false

/-- Whether a running outlet `o` meets `r` too late: the record is closed, N is above its last, and a Mute does not
cover the frame in flight (R113, first row). -/
def State.pastRecord (s : State) (o : OutletId) (r : CutRecord) : Bool :=
  match r.last with
  | some l => decide (l < (s.outlet o).readMark) && !(r.kind == .mute && s.airsCovered o r)
  | none => false

/-- The outcome computed for outlet `o` when `r` is made, or when the outlet is started: the rows of R113, at every start
too (R116, log entry 36). -/
def State.outcomeFor (s : State) (r : CutRecord) (o : OutletId) : CutOutcome :=
  if s.isRunning o = false then .idle
  else if s.pastRecord o r then .tooLate
  else if r.first < (s.outlet o).readMark ∨ s.airsCovered o r then .inside
  else .ahead

/-! ## The passing check -/

/-- Whether outlet `o` is running and has passed the last frame of `r` (R115). -/
def State.hasPassed (s : State) (r : CutRecord) (o : OutletId) : Bool :=
  match r.last with
  | some l => s.isRunning o && decide (l < (s.outlet o).readMark)
  | none => false

/-- The passing check of one record for every running outlet (R115). -/
def State.passRecord (s : State) (r : CutRecord) : CutRecord :=
  { r with outcomes := Vector.ofFn (fun o => if s.hasPassed r o then r.outcomes[o].passed else r.outcomes[o]) }

/-- The passing check of one record for outlet `o` (R115). -/
def State.passFor (s : State) (o : OutletId) (r : CutRecord) : CutRecord :=
  { r with outcomes := Vector.ofFn (fun k => if k = o ∧ s.hasPassed r k then r.outcomes[k].passed else r.outcomes[k]) }

/-- Outlet `o` reports its read mark to the Cut Table, which makes the passing check for it over every closed record
(R47, R115). -/
def State.reportMark (s : State) (o : OutletId) : State := s.setCuts (s.cuts.records.map (s.passFor o))

/-! ## Closing and retirement -/

/-- Notice CutClosed for a record that closes with last `l` (R117). -/
def CutRecord.closedNotice (r : CutRecord) (l : Nat) : Notice :=
  .cutClosed r.id r.kind r.lanes r.origin r.first l r.outcomes

/-- Whether a closed record is to retire: its last is below the oldest Held frame, or no frame is Held (R117). -/
def State.retirable (s : State) (r : CutRecord) : Bool :=
  match r.last with
  | some l => (match s.oldestHeld with | some h => decide (l < h) | none => true)
  | none => false

/-- What becomes of one record when the table is gone through: the notices it causes, in order, and the record if it
stays. -/
abbrev Fate := List Notice × Option CutRecord

/-- A closed record that has had its passing check either retires or stays (R117). -/
def State.retireFate (s : State) (r : CutRecord) : Fate :=
  if s.retirable r then ([r.closedNotice (r.last.getD 0)], none) else ([], some r)

/-- Records of the table replaced by their fates, in table order, and the notices queued in that order (R117). -/
def State.applyFates (s : State) (fates : List Fate) : State :=
  (s.setCuts (fates.filterMap Prod.snd)).postAll (fates.flatMap Prod.fst)

/-- The retirement check over every closed record, each first having its passing check (R117). -/
def State.sweepFate (s : State) (r : CutRecord) : Fate :=
  if s.retirable r then s.retireFate (s.passRecord r) else ([], some r)

/-- The store reports the oldest end, and closed records retire by it (R17, R117). -/
def State.reportOldest (s : State) : State := s.applyFates (s.cuts.records.map s.sweepFate)

/-- The last of a record that closes with an empty range: first − 1 (R108); where first is 0 no number is stated (log
entry 10). -/
def emptyLast (first : Nat) : Nat := if first = 0 then Config.lastBelowZero else first - 1

/-- An open record whose holders have become none, closed: at the larger of E and its least last, or with an empty
range, whose outcomes pass whatever N (R108). -/
def State.closedForm (s : State) (r : CutRecord) : CutRecord :=
  match r.coveredEnd s.edge with
  | some e => s.passRecord { r with last := some e, leastLast := none }
  | none => { r with last := some (emptyLast r.first), leastLast := none, outcomes := r.outcomes.map CutOutcome.passed }

/-- What becomes of a record when holders have been removed: an open record without a holder closes, and retires at
once when its range is empty (R108). -/
def State.closeFate (s : State) (r : CutRecord) : Fate :=
  if r.isOpen && r.holders == 0 then
    (if (r.coveredEnd s.edge).isNone then ([(s.closedForm r).closedNotice (emptyLast r.first)], none)
     else s.retireFate (s.closedForm r))
  else ([], some r)

/-- Every open record without a holder closes (R108). -/
def State.closeUnheld (s : State) : State := s.applyFates (s.cuts.records.map s.closeFate)

/-! ## Joining -/

/-- Whether two records meet: same kind, same lanes, and ranges that overlap or lie next to each other (R105).  A
record that covers no frame meets none (log entry 16). -/
def CutRecord.meets (edge : Option Nat) (a b : CutRecord) : Bool :=
  a.kind == b.kind && a.lanes == b.lanes &&
    (match a.coveredEnd edge, b.coveredEnd edge with
     | some ea, some eb => decide (a.first ≤ eb + 1) && decide (b.first ≤ ea + 1)
     | _, _ => false)

/-- Two records joined into the older, `a` (R105); the widening of `a` by a request is the same joining (R107). -/
def CutRecord.join (a b : CutRecord) : CutRecord :=
  { a with
    first := min a.first b.first
    last := if a.isOpen || b.isOpen then none else maxOpt a.last b.last
    leastLast :=
      if a.isOpen || b.isOpen then maxOpt (maxOpt a.last a.leastLast) (maxOpt b.last b.leastLast) else none
    holders := a.holders ||| b.holders
    outcomes := Vector.ofFn (fun o => a.outcomes[o].combine b.outcomes[o]) }

/-- Two drafts joined into the older. -/
def Draft.join (a b : Draft) : Draft :=
  { record := a.record.join b.record, before := maxOpt a.before b.before, asked := a.asked || b.asked }

/-- Joins into `a` the first of the younger drafts that meets it, which leaves the table (R105). -/
def joinFirst (edge : Option Nat) (a : Draft) : List Draft → Option (Draft × List Draft)
  | [] => none
  | b :: rest =>
    if a.record.meets edge b.record then some (a.join b, rest)
    else (joinFirst edge a rest).map (fun x => (x.1, b :: x.2))

/-- Joins the first pair of drafts that meet, if any do. -/
def joinOnce (edge : Option Nat) : List Draft → Option (List Draft)
  | [] => none
  | a :: rest =>
    match joinFirst edge a rest with
    | some (a', rest') => some (a' :: rest')
    | none => (joinOnce edge rest).map (fun x => a :: x)

/-- Joins until no two drafts meet (R105).  Each joining takes one draft away, so the number of drafts bounds it. -/
def joinAll (edge : Option Nat) : Nat → List Draft → List Draft
  | 0, ds => ds
  | k + 1, ds =>
    match joinOnce edge ds with
    | some ds' => joinAll edge k ds'
    | none => ds

/-- The records of the table as drafts: an open one with the last frame it covered when the edge was `before`. -/
def State.drafts (s : State) (before : Option Nat) : List Draft :=
  s.cuts.records.map (fun r =>
    { record := r, before := if r.isOpen then r.coveredEnd before else none, asked := false })

/-! ## The hold limit -/

/-- Whether an open record has reached the hold limit: E − first + 1 exceeds it (R111). -/
def CutRecord.limitReached (limit : Nat) (edge : Option Nat) (r : CutRecord) : Bool :=
  r.isOpen && (match edge with | some e => decide (r.first + limit < e + 1) | none => false)

/-- A draft closed by the hold limit: last is the largest of first + limit − 1, its least last, and the highest frame
it covered just before the event (R111).  The formula stands alone: where an open range joins a closed record and so
brings it to the limit, it may give a last below the edge (log entry 44). -/
def Draft.limitClosed (limit : Nat) (d : Draft) : CutRecord :=
  { d.record with
    last := some (max (max (d.record.first + limit - 1) (d.record.leastLast.getD 0)) (d.before.getD 0))
    leastLast := none
    holders := 0 }

/-- Notice HoldTimedOut for a draft closed by the hold limit (R111). -/
def Draft.timedOutNotice (limit : Nat) (d : Draft) : Notice :=
  .holdTimedOut d.record.id d.record.kind d.record.first ((d.limitClosed limit).last.getD 0) d.record.holders

/-- What becomes of a draft at the test of the hold limit: HoldTimedOut, then the passing and the retirement check
(R111); a CutClosed of the record follows its HoldTimedOut at once (log entry 17). -/
def State.limitFate (s : State) (d : Draft) : Fate :=
  let limit := s.settings.current.holdLimit
  if d.record.limitReached limit s.edge then
    (let x := s.retireFate (s.passRecord (d.limitClosed limit))
     (d.timedOutNotice limit :: x.1, x.2))
  else ([], some d.record)

/-- The holders removed from records of one kind by the hold limit (R111). -/
def State.limitRemoved (s : State) (kind : CutKind) (ds : List Draft) : HolderSet :=
  ds.foldl (fun m d =>
    if d.record.kind == kind && d.record.limitReached s.settings.current.holdLimit s.edge then m ||| d.record.holders
    else m) 0

/-- The panels among removed holders set the lamp of that kind off (R130). -/
def State.lampsOff (s : State) (mutes covers : HolderSet) : State :=
  { s with panels := Vector.ofFn (fun (p : PanelId) =>
      { s.panels[p] with
        muteLamp := s.panels[p].muteLamp && !member mutes p.val
        coverLamp := s.panels[p].coverLamp && !member covers p.val }) }

/-- The drafts become the records of the table, every open one tested against the hold limit in table order (R111, log
entry 17). -/
def State.testLimit (s : State) (ds : List Draft) : State :=
  (s.applyFates (ds.map s.limitFate)).lampsOff (s.limitRemoved .mute ds) (s.limitRemoved .cover ds)

/-- A move of the edge from `before` is reported: open records have grown, those that now meet are joined, and the
hold limit is tested (R42, R106, R111). -/
def State.edgeMoved (s : State) (before : Option Nat) : State :=
  s.testLimit (joinAll s.edge s.cuts.records.length (s.drafts before))

/-- The hold limit is tested while the edge stands (R111). -/
def State.limitChanged (s : State) : State := s.testLimit (s.drafts s.edge)

/-! ## Creation requests -/

/-- The id after `n`: from 255 it goes on to 1 (R95). -/
def idAfter (n : Nat) : Nat := if n < 255 then n + 1 else 1

/-- The first id from `n` on that is not in use (R95). -/
def freeId (used : List Nat) : Nat → Nat → Nat
  | 0, n => n
  | k + 1, n => if used.contains n then freeId used k (idAfter n) else n

/-- The id the next record takes. -/
def CutTable.newId (t : CutTable) : Nat := freeId (t.records.map CutRecord.id) t.records.length t.nextId

/-- The range of a request as a record of its own, with its outcomes (R98, step 3). -/
def State.asRecord (s : State) (q : CutRequest) (id : Nat) : CutRecord :=
  let r : CutRecord :=
    { id := id, kind := q.kind, lanes := q.lanes, first := q.first, last := q.last, leastLast := none
      holders := q.holders, origin := q.origin, outcomes := Vector.replicate 4 .idle }
  { r with outcomes := Vector.ofFn (s.outcomeFor r) }

/-- Widens the newest Drop record, the one latest in table order, by the request (R107). -/
def widenNewest (x : Draft) : List Draft → Option (List Draft)
  | [] => none
  | d :: rest =>
    match widenNewest x rest with
    | some rest' => some (d :: rest')
    | none => if d.record.kind = .drop then some (d.join x :: rest) else none

/-- The passing check of the record that a merge or a widening gave (R114, R115). -/
def State.passAsked (s : State) (ds : List Draft) : List Draft :=
  ds.map (fun d => if d.asked then { d with record := s.passRecord d.record } else d)

/-- The record that holds the range asked for, as it stands after step 7 of R98. -/
def State.askedRecord (s : State) (d : Draft) : CutRecord :=
  if d.record.limitReached s.settings.current.holdLimit s.edge then
    s.passRecord (d.limitClosed s.settings.current.holdLimit)
  else d.record

/-- Step 7 of R98: the hold limit is checked against an open record, retirement against a closed one.  The answer is
as R99 states. -/
def State.finishCut (s : State) (code : ResultCode) (ds : List Draft) : State × CutAnswer :=
  match ds.find? Draft.asked with
  | none => (s, { code := code, record := none })
  | some d =>
    let t := if d.record.isOpen then s.testLimit ds else (s.setCuts (ds.map Draft.record)).reportOldest
    (t, { code := code
          record := some (s.askedRecord d, t.cuts.records.findIdx? (fun r => r.id == d.record.id)) })

/-- A creation request whose range has been found: steps 3 to 7 of R98. -/
def State.createCut (s : State) (q : CutRequest) : State × CutAnswer :=
  let x : Draft := { record := s.asRecord q 0, before := none, asked := true }
  let ds := s.drafts s.edge
  let n := s.cuts.records.length
  if ds.any (fun d => d.record.meets s.edge x.record) then
    s.finishCut .merged (s.passAsked (joinAll s.edge (n + 1) (ds ++ [x])))
  else if n < Config.cutRecords then
    (let id := s.cuts.newId
     let t := { s with cuts := { s.cuts with nextId := idAfter id } }
     t.finishCut .done (ds ++ [{ x with record := s.asRecord q id }]))
  else
    match (if q.kind = .drop then widenNewest x ds else none) with
    | some ds' => s.finishCut .widened (s.passAsked (joinAll s.edge n ds'))
    | none => (s, { code := .tableFull, record := none })

/-- A creation request refused before its range is taken further. -/
def State.refuseCut (s : State) (c : ResultCode) : State × CutAnswer := (s, { code := c, record := none })

/-- A panel's DROP: the last span frames up to the edge (R100). -/
def State.pressDrop (s : State) (p : PanelId) : State × CutAnswer :=
  match s.oldestHeld, s.edge with
  | some h, some e =>
    s.createCut
      { kind := .drop, lanes := allLanes, first := max (e + 1 - (s.panelCfg p).span) h, last := some e
        holders := 0, origin := .panel p }
  | _, _ => s.refuseCut .nothing

/-- The smallest read mark among the running outlets (R101). -/
def State.leastMark (s : State) : Option Nat :=
  four.foldl (fun m o =>
    if s.isRunning o then
      some (match m with | some n => min n (s.outlet o).readMark | none => (s.outlet o).readMark)
    else m) none

/-- A panel's DROP ALL: every frame that some running outlet has still to take (R101). -/
def State.pressDropAll (s : State) (p : PanelId) : State × CutAnswer :=
  match s.oldestHeld, s.edge with
  | some h, some e =>
    let first := s.leastMark.getD h
    if e < first then s.refuseCut .nothing
    else s.createCut
      { kind := .drop, lanes := allLanes, first := first, last := some e, holders := 0, origin := .panel p }
  | _, _ => s.refuseCut .nothing

/-- A panel's held MUTE or COVER: an open record from preroll frames back (R102). -/
def State.pressHeld (s : State) (p : PanelId) (kind : CutKind) (lanes : LaneMask) : State × CutAnswer :=
  match s.oldestHeld, s.edge with
  | some h, some e =>
    s.createCut
      { kind := kind, lanes := lanes, first := max (e - (s.panelCfg p).preroll) h, last := none
        holders := panelHolder p, origin := .panel p }
  | _, _ => s.refuseCut .nothing

/-- The highest number a CUT may name: E + 255, where E counts as I − 1 when there is no edge (R103). -/
def State.cutReach (s : State) : Nat :=
  match s.edge with
  | some e => e + 255
  | none => s.ingest.mark + 254

/-- The lanes of a record: those named for a Mute, all ten otherwise (R94). -/
def cutLanes (kind : CutKind) (lanes : LaneMask) : LaneMask := if kind = .mute then lanes else allLanes

/-- Whether the lanes named will not do: a Mute names at least one lane, and not P (R103, R152). -/
def lanesBad (kind : CutKind) (lanes : LaneMask) : Bool :=
  kind == .mute && (lanes == 0 || member lanes laneP.val)

/-- A range clipped at the oldest Held frame and created, or refused OutOfStore when no frame is Held or nothing of it
is left (R103, R104). -/
def State.createClipped (s : State) (q : CutRequest) : State × CutAnswer :=
  match s.oldestHeld with
  | none => s.refuseCut .outOfStore
  | some h =>
    if (match q.last with | some l => decide (l < h) | none => false) then s.refuseCut .outOfStore
    else s.createCut { q with first := max q.first h }

/-- The control link's CUT (R103). -/
def State.hostCut (s : State) (kind : CutKind) (lanes : LaneMask) (first : Nat) (last : Option Nat) :
    State × CutAnswer :=
  if lanesBad kind lanes || (match last with
      | some l => decide (l < first) || decide (s.cutReach < l)
      | none => decide (s.cutReach < first)) then s.refuseCut .badValue
  else s.createClipped
    { kind := kind, lanes := cutLanes kind lanes, first := first, last := last
      holders := if last.isNone then linkHolder else 0, origin := .link }

/-- A watch slot's Cut request around frame `m` (R104). -/
def State.slotCut (s : State) (k : SlotId) (kind : CutKind) (lanes : LaneMask) (m pre post : Nat) :
    State × CutAnswer :=
  s.createClipped
    { kind := kind, lanes := cutLanes kind lanes, first := m - pre, last := some (min (m + post) (Config.numberEnd - 1))
      holders := 0, origin := .watch k }

/-! ## Letting go -/

/-- A record without one holder. -/
def CutRecord.dropHolder (r : CutRecord) (h : HolderSet) : CutRecord := { r with holders := r.holders &&& ~~~h }

/-- A panel's let go request: the panel leaves the holders of its open record of the kind, which closes when none
remain (R109).  The answer is the record's id and whether it closed, or that there was no hold. -/
def State.letGo (s : State) (p : PanelId) (kind : CutKind) : State × Option LetGoAnswer :=
  match s.cuts.records.find? (fun r => r.isOpen && r.kind == kind && member r.holders p.val) with
  | none => (s, none)
  | some r =>
    ((s.setCuts (s.cuts.records.map (fun x => if x.id = r.id then x.dropHolder (panelHolder p) else x))).closeUnheld,
      some { id := r.id, closed := (r.dropHolder (panelHolder p)).holders == 0 })

/-- Every hold of a panel is released (R112). -/
def State.releaseHolds (s : State) (p : PanelId) : State :=
  (s.setCuts (s.cuts.records.map (fun x => x.dropHolder (panelHolder p)))).closeUnheld

/-- The record of an id, with its table position. -/
def State.cutById (s : State) (id : Nat) : Option CutRecord := s.cuts.records.find? (fun r => r.id == id)

/-- The table position of an id. -/
def State.cutPosition (s : State) (id : Nat) : Option Nat := s.cuts.records.findIdx? (fun r => r.id == id)

/-- The control link lets go of a record (R110). -/
def State.closeCut (s : State) (id : Nat) : State × CutAnswer :=
  match s.cutById id with
  | none => s.refuseCut .badValue
  | some r =>
    if !r.isOpen then s.refuseCut .alreadyClosed
    else if r.holders &&& linkHolder = 0 then s.refuseCut .stateWrong
    else
      let r' := r.dropHolder linkHolder
      let t := (s.setCuts (s.cuts.records.map (fun x => if x.id = id then x.dropHolder linkHolder else x))).closeUnheld
      (t, { code := .done
            record := some (if r'.holders = 0 then s.closedForm r' else r', t.cutPosition id) })

/-! ## Outlets that start and stop -/

/-- An outlet is started: its outcome is computed for every record whose outcome for it is Idle (R116). -/
def State.cutsStarted (s : State) (o : OutletId) : State :=
  s.setCuts (s.cuts.records.map (fun r =>
    if r.outcomes[o] = .idle then { r with outcomes := r.outcomes.set o.val (s.outcomeFor r o) o.isLt } else r))

/-- An outlet is stopped: Ahead and Inside become Stopped (R116). -/
def State.cutsStopped (s : State) (o : OutletId) : State :=
  s.setCuts (s.cuts.records.map (fun r =>
    if r.outcomes[o].underWay then { r with outcomes := r.outcomes.set o.val .stopped o.isLt } else r))

/-- HOLD_LIMIT_CLOSE: every open record that has reached the hold limit closes (R111, log entry 14). -/
def execHoldLimitClose (s : State) : Host.Outcome State Fault Refusal := event State.limitChanged s

end Sys2Proof.Machine
end

