-- ==== Sys2Proof/Machine/Store.lean ====
section
/-! DEFINITION. The Frame Store: release from the oldest end, the four requests of an outlet, eviction, and the record
and page requests; with the abort of a grab, which an eviction may cause (01_program_frames_and_the_store.md, R163). -/

namespace Sys2Proof.Machine

/-! ## Release -/

/-- The four conditions for the release of the oldest Held frame (R16). -/
def Frame.releasable (mark retention : Nat) (f : Frame) : Bool :=
  f.owing == 0 && f.emitting == 0 && !f.grabHold && decide (retention < mark - f.seq)

/-- The Held frames that stay: releasable frames go from the oldest end until one fails a condition (R16). -/
def State.keptFrames (s : State) : List Frame :=
  s.store.held.dropWhile (Frame.releasable s.ingest.mark s.settings.current.retention)

/-- The store looks for frames to release, and reports the oldest end if it changed (R16, R17). -/
def State.release (s : State) : State :=
  if s.keptFrames.length = s.store.held.length then s else (s.setHeld s.keptFrames).reportOldest

/-! ## The four requests of an outlet -/

/-- The outlet leaves a frame's owing set. -/
def Frame.unowe (o : OutletId) (f : Frame) : Frame := { f with owing := removeBit f.owing o.val }

/-- Take: the outlet leaves the frame's owing set and the emitting count rises by 1; N moves past it (R12). -/
def State.takeFrame (s : State) (o : OutletId) : State :=
  let n := (s.outlet o).readMark
  (s.modFrame n (fun f => { f.unowe o with emitting := f.emitting + 1 })).modOutlet o
    (fun u => { u with readMark := n + 1 })

/-- Replay: the emitting count of a Held frame rises by 1 (R12). -/
def State.replayFrame (s : State) (n : Nat) : State := s.modFrame n (fun f => { f with emitting := f.emitting + 1 })

/-- Pass: the outlet leaves the owing set of frame N and N moves past it; then the store looks for frames to release
(R12, R11). -/
def State.passFrame (s : State) (o : OutletId) : State :=
  let n := (s.outlet o).readMark
  ((s.modFrame n (Frame.unowe o)).modOutlet o (fun u => { u with readMark := n + 1 })).release

/-- Passes of `k` frames from N on, in order; each looks for frames to release and reports the oldest end by itself
(log entry 35). -/
def State.passFrames (s : State) (o : OutletId) : Nat → State
  | 0 => s
  | k + 1 => (s.passFrame o).passFrames o k

/-- End: the emitting count falls by 1; then the store looks for frames to release (R12). -/
def State.endFrame (s : State) (n : Nat) : State :=
  (s.modFrame n (fun f => { f with emitting := f.emitting - 1 })).release

/-- An outlet leaves every owing set (R11, R65). -/
def State.leaveOwing (s : State) (o : OutletId) : State := s.setHeld (s.store.held.map (Frame.unowe o))

/-- An outlet joins the owing set of every Held frame at or above its N (R11, R62). -/
def State.joinOwing (s : State) (o : OutletId) : State :=
  s.setHeld (s.store.held.map (fun f =>
    if (s.outlet o).readMark ≤ f.seq then { f with owing := insertBit f.owing o.val } else f))

/-! ## The abort of a grab -/

/-- Every remaining grab hold is removed (R14, R163). -/
def State.dropHolds (s : State) : State := s.setHeld (s.store.held.map (fun f => { f with grabHold := false }))

/-- A grab that is aborted: its records and pages are freed, its remaining holds removed, its clip emptied, the engine
Idle and the cause kept; GrabAborted is queued.  For cause Reset see the reset, which queues none (R163, R169). -/
def State.abortGrab (s : State) (cause : AbortCause) : State :=
  match s.bank.engine with
  | .idle => s
  | .copying c n _ =>
    let k := (s.clip c).copied
    let t := s.modClip c (fun _ => Clip.emptied)
    let t := { t with bank := { t.bank with engine := .idle, lastGrab := .aborted c cause k } }
    t.dropHolds.release.post (.grabAborted c cause k n)

/-! ## Eviction -/

/-- An eviction presses one outlet: N moves past the victim, the pressed counter rises, Pressed is queued, and the new
N is reported to the Cut Table (R19, R73). -/
def State.press (s : State) (victim : Nat) (o : OutletId) : State :=
  (((s.modOutlet o (fun u =>
    { u with readMark := victim + 1, counters := { u.counters with pressed := u.counters.pressed + 1 } })).post
      (.pressed o victim (victim + 1))).reportMark o)

/-- The outlets of a set, by ascending number: the order in which an eviction presses them (log entry 17). -/
def outletsIn (m : OutletSet) : List OutletId := four.filter (fun o => member m o.val)

/-- The effects of an eviction of the oldest Held frame `v`, in the order of R19; then the store tests the new oldest
frame (R16) and reports the oldest end (R17).  The records retire, with CutClosed, at that last report, and so after
GrabAborted, unless the abort itself releases a frame: its report then comes before GrabAborted (log entry 17). -/
def State.evict (s : State) (v : Frame) (rest : List Frame) : State :=
  let t := (outletsIn v.owing).foldl (fun t o => t.press v.seq o) (s.setHeld rest)
  let t := if v.grabHold then t.abortGrab .evicted else t
  (t.setHeld t.keptFrames).reportOldest

/-- Eviction is tried: refused when no frame is Held or the oldest Held frame is in flight (R18). -/
def State.tryEvict (s : State) : Option State :=
  match s.store.held with
  | [] => none
  | v :: rest => if 0 < v.emitting then none else some (s.evict v rest)

/-! ## Record and page requests -/

/-- A record request: room for a record, by eviction if no record is free; none when it is Refused (R7). -/
def State.recordRoom (s : State) : Option State :=
  if s.store.inUse < Config.ringRecords then some s else s.tryEvict

/-- A page request for the filling frame: eviction is repeated until a page is free or an eviction is refused (R8).
Each eviction frees a Held frame, so their number bounds it.  The answer says whether a page is free. -/
def State.pageRoom : Nat → State → State × Bool
  | 0, s => (s, decide (0 < s.freePages))
  | k + 1, s =>
    if 0 < s.freePages then (s, true)
    else
      match s.tryEvict with
      | some t => State.pageRoom k t
      | none => (s, false)

/-- A record as a frame start makes it (R5). -/
def Frame.fresh (n : Nat) (condition : Condition) : Frame :=
  { seq := n, timecode := none, pages := [], lanes := 0, condition := condition, pause := none, cues := []
    captions := [], owing := 0, emitting := 0, grabHold := false }

/-- Changes the Filling frame, if there is one. -/
def State.modFilling (s : State) (f : Frame → Frame) : State := s.setFilling (s.store.filling.map f)

/-- A Whole frame becomes Damaged; Damaged and Empty stay (R6). -/
def Condition.spoil : Condition → Condition
  | .whole => .damaged
  | .damaged => .damaged
  | .empty => .empty

/-- A frame becomes Damaged (R6). -/
def Frame.spoil (f : Frame) : Frame := { f with condition := f.condition.spoil }

end Sys2Proof.Machine
end

