-- ==== Sys2Proof/Machine/Bank.lean ====
section
/-! DEFINITION. The Filler Bank: grabs, the copy engine, and the use of clips by outlets (08_filler_clips.md). -/

namespace Sys2Proof.Machine

/-- A filler frame record as a CLIP GRAB takes it: an empty chain, naming its source (R160); its lanes and condition stand
at none and Whole until its copy completes (log entry 38). -/
def FillerFrame.fresh (source : Nat) : FillerFrame :=
  { source := source, pages := [], lanes := 0, condition := .whole }

/-- A filler frame whose source has been copied: its lanes without C, and Empty for an Empty source (R161). -/
def FillerFrame.complete (f : Frame) (x : FillerFrame) : FillerFrame :=
  { x with lanes := removeBit f.lanes laneC.val, condition := if f.condition = .empty then .empty else .whole }

/-- The frame after a completed copy becomes the frame under copy, or the clip becomes Ready and the grab ends
(R161, R162). -/
def State.nextCopy (s : State) (c : ClipId) (n : Nat) : State :=
  let k := s.clip c
  if k.copied < k.count then { s with bank := { s.bank with engine := .copying c (n + 1) 0 } }
  else
    let t := s.modClip c (fun k => { k with state := .ready })
    let t := { t with bank := { t.bank with engine := .idle, lastGrab := .done c } }
    t.post (.grabDone c (k.sourceFirst.getD 0) k.count k.pages)

/-- The copy of frame `f` into clip `c` completes: its hold is removed, the store looks for frames to release and reports
the oldest end for this completion by itself (log entry 35), and then the grab goes on or ends, so that a CutClosed of
that release is queued before GrabDone (R161, R162, log entry 17). -/
def State.completeCopy (s : State) (c : ClipId) (f : Frame) : State :=
  let t := s.modClip c (fun k =>
    { k with frames := k.frames.modify k.copied (FillerFrame.complete f), copied := k.copied + 1 })
  ((t.modFrame f.seq (fun x => { x with grabHold := false })).release).nextCopy c f.seq

/-- Copies complete while the frame under copy has no page left to copy: a source frame with no pages completes as soon
as it becomes the frame under copy (R161).  Each completion of one event looks for frames to release and reports the
oldest end by itself (log entry 35).  A grab is of at most 120 frames. -/
def State.runCopies : Nat → State → State
  | 0, s => s
  | k + 1, s =>
    match s.bank.engine with
    | .idle => s
    | .copying c n done =>
      match s.heldFrame n with
      | none => s
      | some f => if f.pages.length ≤ done then State.runCopies k (s.completeCopy c f) else s

/-- One source page is copied into the filler frame's chain. -/
def State.copyPage (s : State) (c : ClipId) (n done : Nat) (page : Page) : State :=
  let t := s.modClip c (fun k =>
    { k with frames := k.frames.modify k.copied (fun x => { x with pages := x.pages ++ [page] }) })
  { t with bank := { t.bank with engine := .copying c n (done + 1) } }

/-- The copy engine asks the pool for a page, reads the next source page into it, and adds it to the chain; with no
page free the grab aborts with cause NoSpace (R2, R161, R164; log entry 12). -/
def State.copyNextPage (s : State) : State :=
  match s.bank.engine with
  | .idle => s
  | .copying c n done =>
    match s.heldFrame n with
    | none => s
    | some f =>
      match f.pages[done]? with
      | none => s
      | some page =>
        if s.freePages = 0 then s.abortGrab .noSpace
        else (s.copyPage c n done page).runCopies Config.clipFrames

/-- Whether every frame from `first` to `first + count − 1` is Held. -/
def State.allHeld (s : State) (first count : Nat) : Bool :=
  (List.range count).all (fun i => s.isHeld (first + i))

/-- The refusal of a CLIP GRAB, by the first check of R160 that fails; none when it is taken. -/
def State.grabRefusal (s : State) (c : ClipId) (first count : Nat) : Option ResultCode :=
  if count = 0 ∨ Config.clipFrames < count then some .badValue
  else if s.bank.engine ≠ .idle then some .busy
  else if (s.clip c).state = .ready then some .stateWrong
  else if !s.allHeld first count then some .outOfStore
  else if s.freeFillerRecords < count then some .noSpace
  else none

/-- A CLIP GRAB that is taken: records, grab holds, and the first frame under copy (R160). -/
def State.startGrab (s : State) (c : ClipId) (first count : Nat) : State :=
  let t := s.modClip c (fun k =>
    { k with
      state := .grabbing, sourceFirst := some first, count := count, copied := 0
      frames := (List.range count).map (fun i => FillerFrame.fresh (first + i)) })
  let t := t.setHeld (t.store.held.map (fun f =>
    if first ≤ f.seq ∧ f.seq < first + count then { f with grabHold := true } else f))
  ({ t with bank := { t.bank with engine := .copying c first 0 } }).runCopies Config.clipFrames

/-- CLIP CLEAR of a clip (R166): the state after it, and the result. -/
def State.clearClip (s : State) (c : ClipId) : State × ResultCode :=
  match (s.clip c).state with
  | .empty => (s, .done)
  | .grabbing => (s.abortGrab .cleared, .done)
  | .ready => if (s.clip c).users = 0 then (s.modClip c (fun _ => Clip.emptied), .done) else (s, .clipInUse)

/-- An outlet joins a clip's users (R165). -/
def State.useClip (s : State) (c : ClipId) (o : OutletId) : State :=
  s.modClip c (fun k => { k with users := insertBit k.users o.val })

/-- An outlet's use of a clip ends (R165). -/
def State.endUse (s : State) (c : ClipId) (o : OutletId) : State :=
  s.modClip c (fun k => { k with users := removeBit k.users o.val })

/-- COPY_PAGE_DONE: the copy engine finishes copying one source page (R161). -/
def execCopyPageDone (s : State) : Host.Outcome State Fault Refusal := event State.copyNextPage s

end Sys2Proof.Machine
end

