-- ==== Sys2Proof/Machine/Reports.lean ====
section
/-! DEFINITION. What leaves the part as bytes: result codes, reports, records, notices and the tally, by the encodings
of 11_message_layouts.md (R191 to R197; the widths that only inference gives are in log entry 22). -/

namespace Sys2Proof.Machine

/-! ## Enumerations -/

/-- The result codes (R193). -/
def ResultCode.toByte : ResultCode → Byte
  | .done => 0x00
  | .merged => 0x01
  | .widened => 0x02
  | .clipped => 0x03
  | .unknown => 0x10
  | .badLength => 0x11
  | .badValue => 0x12
  | .notReady => 0x13
  | .busy => 0x14
  | .stateWrong => 0x15
  | .slotBusy => 0x16
  | .tableFull => 0x17
  | .clipInUse => 0x18
  | .locked => 0x19
  | .badKey => 0x1a
  | .outOfStore => 0x1b
  | .noSpace => 0x1c
  | .nothing => 0x1d
  | .alreadyClosed => 0x1e

/-- Present, Lost (R26, R46). -/
def presenceByte : Presence → Byte
  | .present => 0
  | .lost => 1

/-- The ingest states (R195). -/
def IngestState.toByte : IngestState → Byte
  | .stopped => 0
  | .running => 1
  | .bridging => 2
  | .unclocked => 3

/-- The ingest causes, in the order of R26. -/
def IngestCause.toByte : IngestCause → Byte
  | .none => 0
  | .start => 1
  | .stop => 2
  | .sourceLost => 3
  | .sourceReturned => 4
  | .referenceLost => 5
  | .referenceReturned => 6
  | .sequenceEnd => 7

/-- The outlet states (R195). -/
def OutletState.toByte : OutletState → Byte
  | .off => 0
  | .holding => 1
  | .rebuilding => 2
  | .steady => 3
  | .squeezing => 4
  | .stopping => 5

/-- The conditions of a frame (R196). -/
def Condition.toByte : Condition → Byte
  | .whole => 0
  | .damaged => 1
  | .empty => 2

/-- The conditions of a filler frame, in the order of R158. -/
def FillerCondition.toByte : FillerCondition → Byte
  | .whole => 0
  | .empty => 1

/-- The kinds of cut (R196). -/
def CutKind.toByte : CutKind → Byte
  | .drop => 0
  | .cover => 1
  | .mute => 2

/-- The origin of a record (R196). -/
def Origin.toByte : Origin → Byte
  | .panel p => BitVec.ofNat 8 p.val
  | .link => 0x04
  | .watch k => BitVec.ofNat 8 (0x10 + k.val)

/-- The outcomes (R196). -/
def CutOutcome.toByte : CutOutcome → Byte
  | .idle => 0
  | .ahead => 1
  | .inside => 2
  | .done => 3
  | .partly => 4
  | .tooLate => 5
  | .stopped => 6

/-- A reader of pages (R191). -/
def readerByte : Reader → Byte
  | .outlet o => BitVec.ofNat 8 o.val
  | .copyEngine => 4

/-- The states of a slot, in the order of R139. -/
def SlotState.toByte : SlotState → Byte
  | .disabled => 0
  | .armed => 1
  | .spent => 2

/-- The states of a clip, in the order of R157. -/
def ClipState.toByte : ClipState → Byte
  | .empty => 0
  | .grabbing => 1
  | .ready => 2

/-- The causes of an abort, in the order of R164. -/
def AbortCause.toByte : AbortCause → Byte
  | .evicted => 0
  | .readError => 1
  | .noSpace => 2
  | .cleared => 3
  | .reset => 4

/-- The standings (R197). -/
def Standing.toByte : Standing → Byte
  | .active => 0
  | .warned => 1
  | .isolated => 2

/-- PowerOn, Soft (R170). -/
def ResetCause.toByte : ResetCause → Byte
  | .powerOn => 0
  | .soft => 1

/-- The ends of a load (R195). -/
def LoadResult.toByte : LoadResult → Byte
  | .good => 0
  | .check => 1
  | .range => 2
  | .read => 3

/-- The buttons (R197). -/
def Button.toByte : Button → Byte
  | .drop => 1
  | .dropAll => 2
  | .mute => 3
  | .cover => 4

/-- The button messages (R197). -/
def PanelMessage.toByte : PanelMessage → Byte
  | .press => 2
  | .letGo => 3

/-! ## Compound fields -/

/-- A lane mask, two bytes (R191). -/
def laneBytes (m : LaneMask) : List Byte := u16 m.toNat

/-- The source of a timecode (R191). -/
def TimecodeSource.toByte : TimecodeSource → Byte
  | .carried => 0
  | .synthesized => 1

/-- A timecode (R191). -/
def Timecode.bytes (t : Timecode) : List Byte := u8 t.hh ++ u8 t.mm ++ u8 t.ss ++ u8 t.ff ++ [t.source.toByte]

/-- A timecode that may be undecided: the source is FFh (R191), and the values 0 (log entry 22). -/
def timecodeBytes : Option Timecode → List Byte
  | some t => t.bytes
  | none => [0, 0, 0, 0, 0xff]

/-- What a slot took: sequence, timecode with source, and the cue word or none (R139). -/
def Capture.bytes (c : Capture) : List Byte :=
  u32 c.seq ++ c.timecode.bytes ++ optional 2 (c.cue.map (fun w => u16 w.toNat))

/-- The action result: its kind, and the code of a refusal (R139, R191). -/
def ActionResult.bytes : ActionResult → List Byte
  | .none => [0, 0]
  | .pending => [1, 0]
  | .taken => [2, 0]
  | .merged => [3, 0]
  | .widened => [4, 0]
  | .clipped => [5, 0]
  | .refused c => [6, c.toByte]

/-- The result detail: its kind and its part (R139, R191). -/
def ResultDetail.bytes : ResultDetail → List Byte
  | .none => [0, 0]
  | .record id => 1 :: u8 id
  | .code c => [2, c.toByte]
  | .outlets m => 3 :: u8 m.toNat

/-- The action as WATCH SET lays it out: type, kind, lanes, pre, post, outlet mask and target, the unused ones 0
(R192). -/
def WatchAction.bytes : WatchAction → List Byte
  | .report => [0, 0, 0, 0, 0, 0, 0, 0, 0]
  | .cut kind lanes pre post => [1, kind.toByte] ++ laneBytes lanes ++ u8 pre ++ u8 post ++ [0, 0, 0]
  | .retarget set target => [2, 0, 0, 0, 0, 0] ++ u8 set.toNat ++ u16 target

/-- Cue, Timecode (R140). -/
def WatchSource.toByte : WatchSource → Byte
  | .cue => 0
  | .timecode => 1

/-- Once, Repeat (R140). -/
def WatchMode.toByte : WatchMode → Byte
  | .once => 0
  | .repeating => 1

/-- A slot's configuration as WATCH SET lays it out (R192). -/
def WatchConfig.bytes (c : WatchConfig) : List Byte :=
  [c.source.toByte] ++ u16 c.pattern.toNat ++ u16 c.mask.toNat ++
    rawTimecodeBytes c.timecode ++ u8 c.compare.toNat ++
    [c.mode.toByte] ++ c.action.bytes

/-- The frame in flight: its kind, and four bytes for its parts (R46, R191). -/
def InFlight.bytes : InFlight → List Byte
  | .none => [0, 0, 0, 0, 0]
  | .program n => 1 :: u32 n
  | .again n => 2 :: u32 n
  | .filler clip position => [3] ++ u8 clip.val ++ u8 position ++ [0, 0]
  | .black => [4, 0, 0, 0, 0]

/-- The copy engine: its kind, then the clip, the frame under copy and its pages copied (R167, R191). -/
def CopyEngine.bytes : CopyEngine → List Byte
  | .idle => [0, 0, 0, 0, 0, 0, 0]
  | .copying clip frame pages => [1] ++ u8 clip.val ++ u32 frame ++ u8 pages

/-- The last grab: its kind, then the clip, the cause and the frames copied (R157, R191). -/
def LastGrab.bytes : LastGrab → List Byte
  | .none => [0, 0, 0, 0]
  | .done clip => [1] ++ u8 clip.val ++ [0, 0]
  | .aborted clip cause copied => [2] ++ u8 clip.val ++ [cause.toByte] ++ u8 copied

/-- The result and id or code of a last result, as in the tally (R197). -/
def PressResult.bytes : PressResult → List Byte
  | .taken id => 1 :: u8 id
  | .merged id => 2 :: u8 id
  | .widened id => 3 :: u8 id
  | .ignored => [4, 0]
  | .refused c => [5, c.toByte]

/-- The last result, as in the tally (R197). -/
def lastResultBytes : Option LastResult → List Byte
  | none => [0, 0, 0, 0]
  | some r => [r.button.toByte, r.message.toByte] ++ r.result.bytes

/-- The four outcomes of a record (R196). -/
def outcomeBytes (v : Vector CutOutcome 4) : List Byte := v.toList.map CutOutcome.toByte

/-- The number of holders of a record (R119). -/
def holderCount (m : HolderSet) : Nat := (List.range 5).countP (fun i => member m i)

/-! ## Reports -/

/-- The ingest report, its fields in the order of R45. -/
def State.ingestReport (s : State) : List Byte :=
  let u := s.ingest
  let c := s.settings.current
  [u.state.toByte, u.cause.toByte] ++ markBytes u.mark ++ flag s.store.filling.isSome ++
    [presenceByte u.source, presenceByte u.reference] ++ u8 c.rate ++ levelByte c.threshold ++
    u16 c.pauseCue.toNat ++ flag c.cueEnable ++
    u32 u.completed.toNat ++ u32 u.damaged.toNat ++ u32 u.bridged.toNat ++ u32 u.refused.toNat

/-- The slot report with the capture and lost flag given, its fields in the order of R151. -/
def State.slotReportWith (s : State) (k : SlotId) (capture : Option Capture) (lost : Bool) : List Byte :=
  let x := s.slot k
  u8 k.val ++ [x.state.toByte] ++ optional 20 (x.config.map WatchConfig.bytes) ++
    optional 12 (capture.map Capture.bytes) ++ flag lost ++ x.result.bytes ++ x.detail.bytes ++ u8 (s.entriesOf k)

/-- The slot report (R151). -/
def State.slotReport (s : State) (k : SlotId) : List Byte :=
  s.slotReportWith k (s.slot k).capture (s.slot k).lost

/-- The clip report without a filler frame, its fields in the order of R167. -/
def State.clipReport (s : State) (c : ClipId) : List Byte :=
  let x := s.clip c
  [x.state.toByte] ++ optional 4 (x.sourceFirst.map u32) ++ u8 x.count ++ u8 x.copied ++ u16 x.pages ++
    u8 x.users.toNat ++ s.bank.engine.bytes ++ s.bank.lastGrab.bytes ++ u16 s.freeFillerRecords

/-- A filler frame record as CLIP READ carries it (R167). -/
def FillerFrame.bytes (position : Nat) (f : FillerFrame) : List Byte :=
  u8 position ++ u32 f.source ++ u8 f.pages.length ++ laneBytes f.lanes ++ [f.condition.toByte]

/-- The filler frame that CLIP READ reports at a position: one of a Ready clip, or a copied one of a Grabbing clip
(R167). -/
def Clip.reported (x : Clip) (position : Nat) : Option FillerFrame :=
  match x.state with
  | .empty => none
  | .grabbing => if position < x.copied then x.frames[position]? else none
  | .ready => x.frames[position]?

/-- The panel report, its fields in the order of R136; a lamp is sent as yes or no, on as 1 (log entry 41). -/
def State.panelReport (s : State) (p : PanelId) : List Byte :=
  let x := s.panel p
  let c := s.panelCfg p
  [x.standing.toByte] ++ u8 x.errorCount ++ flag x.muteLamp ++ flag x.coverLamp ++ lastResultBytes x.lastResult ++
    [x.packetsTaken] ++ u16 c.span ++ laneBytes c.lanes ++ u8 c.buttons.toNat ++ u8 c.preroll ++
    u32 x.good.toNat ++ u32 x.badCheck.toNat ++ u32 x.badLength.toNat ++ u32 x.badGap.toNat ++
    u32 x.discarded.toNat

/-- The ten counters of an outlet, in the order of R74. -/
def OutletCounters.bytes (c : OutletCounters) : List Byte :=
  u32 c.emitted.toNat ++ u32 c.skipped.toNat ++ u32 c.covered.toNat ++ u32 c.mutedQuarters.toNat ++
    u32 c.inserted.toNat ++ u32 c.removed.toNat ++ u32 c.forced.toNat ++ u32 c.filler.toNat ++
    u32 c.underruns.toNat ++ u32 c.pressed.toNat

/-- The outlet record of OUTLET READ, its fields in the order of R75. -/
def State.outletReport (s : State) (o : OutletId) : List Byte :=
  let u := s.outlet o
  let c := s.outletCfg o
  [u.state.toByte] ++ markBytes u.readMark ++ u16 (s.reportedDepth o) ++ u16 c.target ++ u16 c.floor ++
    u8 c.tolerance ++ u8 c.spacing ++ u8 u.spacingCount ++ u8 u.deferred ++ flag u.exposure ++
    u.inFlight.bytes ++ u8 u.quarter.toNat ++ optional 4 (u.lastProgram.map u32) ++ u8 c.clip.val ++
    u8 u.clipPosition ++ flag u.unlockOpen ++ [presenceByte u.sink] ++ u16 u.missed ++ u.counters.bytes

/-! ## Frames and cut records -/

/-- The pause mark and the A1 peak of a record, FFh and 0 while not yet decided (R196, log entry 22). -/
def pauseBytes : Option PauseMark → List Byte
  | some m => flag m.isPause ++ levelByte m.peak
  | none => [0xff, 0]

/-- The cue words of a record, with zeros for the unused of the four (R196). -/
def cueBytes (cues : List Half) : List Byte :=
  u8 cues.length ++ cues.flatMap (fun w => u16 w.toNat) ++ List.replicate (8 - 2 * cues.length) 0

/-- The fields of the FRAME READ reply (R196). -/
def Frame.bytes (held : Bool) (f : Frame) : List Byte :=
  u32 f.seq ++ flag held ++ timecodeBytes f.timecode ++ u8 f.pages.length ++ laneBytes f.lanes ++
    [f.condition.toByte] ++ pauseBytes f.pause ++ u8 f.owing.toNat ++ u8 f.emitting ++ flag f.grabHold ++
    cueBytes f.cues ++ u8 f.captions.length ++ f.captions

/-- The fields of a cut record in the replies to CUT READ, CUT and CUT CLOSE (R196). -/
def CutRecord.bytes (position : Nat) (r : CutRecord) : List Byte :=
  u8 r.id ++ u8 position ++ [r.kind.toByte] ++ laneBytes r.lanes ++ [r.origin.toByte] ++ u32 r.first ++
    optional 4 (r.last.map u32) ++ optional 4 (r.leastLast.map u32) ++ u8 r.holders.toNat ++ outcomeBytes r.outcomes

/-- The fields of the Cut Table's answer (R99, R196): none for a refusal; a record that has left the table reports
the position of log entry 11. -/
def CutAnswer.bytes (a : CutAnswer) : List Byte :=
  match a.record with
  | none => []
  | some (r, position) => r.bytes (position.getD (Config.retiredPosition r.id))

/-- The Cut Table's answer as the answer to a request. -/
def CutAnswer.toAnswer (a : CutAnswer) : Answer := { code := a.code, fields := a.bytes }

/-- One entry of CUT LIST (R196). -/
def CutRecord.entryBytes (r : CutRecord) : List Byte :=
  u8 r.id ++ [r.kind.toByte] ++ u32 r.first ++ optional 4 (r.last.map u32) ++ u8 (holderCount r.holders)

/-- The records that CUT LIST reports from a position on: at most 16 (R119). -/
def State.listed (s : State) (position : Nat) : List CutRecord := (s.cuts.records.drop position).take 16

/-- The fields of the CUT LIST reply (R196). -/
def State.cutListBytes (s : State) (position : Nat) : List Byte :=
  u8 s.cuts.records.length ++ u8 (s.listed position).length ++ (s.listed position).flatMap CutRecord.entryBytes

/-! ## STATUS -/

/-- Yes or no as one bit of a byte. -/
def bit (b : Bool) (i : Nat) : Nat := if b then 2 ^ i else 0

/-- An outlet entry of STATUS: a summary, or a fault entry while the sink is Lost (R181, R195). -/
def State.statusEntry (s : State) (o : OutletId) : List Byte :=
  let u := s.outlet o
  let c := s.outletCfg o
  match u.sink with
  | .present =>
    u8 (u.state.toByte.toNat + bit (s.exposed o) 3) ++ u16 (s.reportedDepth o) ++ u16 c.target ++ u16 c.floor ++ [0]
  | .lost => [0x80, 0x01] ++ u16 u.missed ++ [0, 0, 0, 0]

/-- The settings state of STATUS (R195). -/
def SettingsStore.statusByte (x : SettingsStore) : List Byte :=
  u8 (bit x.ready 0 + bit (decide (x.save ≠ .idle)) 1 + 4 * (x.lastLoad.getD .good).toByte.toNat)

/-- The fields of the STATUS reply (R195). -/
def State.statusBytes (s : State) : List Byte :=
  [s.ingest.state.toByte] ++ markBytes s.ingest.mark ++
    u8 (bit s.store.filling.isSome 0 + bit s.link.lostNotice 1 + bit (decide (s.link.resetCause = .soft)) 2) ++
    optional 4 (s.oldestHeld.map u32) ++ u16 s.store.held.length ++ u32 s.freePages ++ u16 s.freeFillerRecords ++
    u8 s.cuts.records.length ++ s.settings.statusByte ++ u32 s.link.discarded.toNat ++ u32 s.link.overrun.toNat ++
    four.flatMap s.statusEntry

/-! ## Notices -/

/-- The type byte of a notice (R194). -/
def Notice.type : Notice → Byte
  | .restarted _ => 0xc0
  | .settingsDefaulted _ => 0xc1
  | .saveDone _ => 0xc2
  | .saveFailed => 0xc3
  | .ingestState _ _ _ _ => 0xc4
  | .ingestRefused _ => 0xc5
  | .frameDamaged _ _ => 0xc6
  | .outletState _ _ _ _ => 0xc7
  | .exposed _ _ => 0xc8
  | .underrun _ _ => 0xc9
  | .pressed _ _ _ => 0xca
  | .rejoined _ _ => 0xcb
  | .cutClosed _ _ _ _ _ _ _ => 0xcc
  | .holdTimedOut _ _ _ _ _ => 0xcd
  | .watchCapture _ _ _ _ _ => 0xce
  | .grabDone _ _ _ _ => 0xcf
  | .grabAborted _ _ _ _ => 0xd0
  | .panelStanding _ _ _ _ => 0xd1

/-- The fields of a notice, in the order of the notice table of the Control Link chapter (R192).  A value that a notice
always carries has no presence byte (log entry 42). -/
def Notice.fields : Notice → List Byte
  | .restarted cause => [cause.toByte]
  | .settingsDefaulted cause => [cause.toByte]
  | .saveDone check => u16 check.toNat
  | .saveFailed => []
  | .ingestState new left cause mark => [new.toByte, left.toByte, cause.toByte] ++ markBytes mark
  | .ingestRefused mark => markBytes mark
  | .frameDamaged n reader => u32 n ++ [readerByte reader]
  | .outletState o left new depth => u8 o.val ++ [left.toByte, new.toByte] ++ u16 depth
  | .exposed o floor => u8 o.val ++ u16 floor
  | .underrun o n => u8 o.val ++ markBytes n
  | .pressed o victim n => u8 o.val ++ u32 victim ++ markBytes n
  | .rejoined o passed => u8 o.val ++ u16 passed
  | .cutClosed id kind lanes origin first last outcomes =>
    u8 id ++ [kind.toByte] ++ laneBytes lanes ++ [origin.toByte] ++ u32 first ++ u32 last ++ outcomeBytes outcomes
  | .holdTimedOut id kind first last removed =>
    u8 id ++ [kind.toByte] ++ u32 first ++ u32 last ++ u8 removed.toNat
  | .watchCapture slot capture lost result detail =>
    u8 slot.val ++ capture.bytes ++ flag lost ++ result.bytes ++ detail.bytes
  | .grabDone clip first count pages => u8 clip.val ++ u32 first ++ u8 count ++ u16 pages
  | .grabAborted clip cause copied frame => u8 clip.val ++ [cause.toByte] ++ u8 copied ++ u32 frame
  | .panelStanding p left new count => u8 p.val ++ [left.toByte, new.toByte] ++ u8 count

/-- The body of a notice: type, tag 0, fields (R178, R192). -/
def Notice.body (n : Notice) : List Byte := n.type :: 0 :: n.fields

/-! ## The tally -/

/-- Three bytes of the tally for an outlet (R132, R197). -/
def State.tallyEntry (s : State) (o : OutletId) : List Byte :=
  u8 ((s.outlet o).state.toByte.toNat + bit (s.exposed o) 3 + bit (decide ((s.outlet o).sink = .lost)) 4) ++
    u16 (s.reportedDepth o)

/-- The body of a tally for panel `p`, composed from the state (R132, R197). -/
def State.tally (s : State) (p : PanelId) : List Byte :=
  let x := s.panel p
  [0x81] ++ four.flatMap s.tallyEntry ++ [x.standing.toByte] ++
    u8 (bit x.muteLamp 0 + bit x.coverLamp 1 + bit (s.dropReady p) 2) ++ lastResultBytes x.lastResult ++
    [x.packetsTaken, 0]

end Sys2Proof.Machine
end

