-- ==== Sys2Proof/Machine/Outlets.lean ====
section
/-! DEFINITION. The Outlet Units: flight, filler, the program choice, the period start and the requests of an outlet
(03_outlets.md, 04_stretch_and_squeeze.md). -/

namespace Sys2Proof.Machine

/-! ## Changes of state -/

/-- Outlet `o` changes its state, with notice OutletState (R48). -/
def State.changeOutlet (s : State) (o : OutletId) (new : OutletState) : State :=
  (s.modOutlet o (fun u => { u with state := new })).post
    (.outletState o (s.outlet o).state new (if new.running then s.depth o else 0))

/-! ## The frame in flight -/

/-- What the end of a frame in flight asks of its owner: End of the store, or the end of a use of the Filler Bank
(R50). -/
def State.endAtOwner (s : State) (o : OutletId) (x : InFlight) : State :=
  match x with
  | .none => s
  | .program n => s.endFrame n
  | .again n => s.endFrame n
  | .filler c _ => s.endUse c o
  | .black => s

/-- Last emission after a frame in flight has ended (R50). -/
def Emission.after (e : Emission) (x : InFlight) : Emission :=
  match x with
  | .none => e
  | .program _ => .program
  | .again _ => .program
  | .filler _ _ => .filler
  | .black => .filler

/-- The frame in flight of outlet `o` ends (R50).  The quarter stands as it is until the next frame is chosen (log entry
46). -/
def State.endFlight (s : State) (o : OutletId) : State :=
  (s.endAtOwner o (s.outlet o).inFlight).modOutlet o (fun u =>
    { u with lastEmission := u.lastEmission.after (s.outlet o).inFlight, inFlight := .none, muteLanes := 0
             dataLost := false })

/-- A chosen frame becomes the frame in flight, with quarter 0 (R54). -/
def State.setFlight (s : State) (o : OutletId) (x : InFlight) : State :=
  s.modOutlet o (fun u => { u with inFlight := x, quarter := 0, dataLost := false })

/-- The lanes muted for a frame in flight (R59). -/
def State.flightLanes (s : State) (x : InFlight) : LaneMask :=
  match flightFrame x with
  | some n => s.mutedLanes n
  | none => 0

/-- The mute lanes for the quarter now beginning are settled (R59). -/
def State.settleMute (s : State) (o : OutletId) : State :=
  let m := s.flightLanes (s.outlet o).inFlight
  let t := s.modOutlet o (fun u => { u with muteLanes := m })
  if m = 0 then t else t.count o (fun c => { c with mutedQuarters := c.mutedQuarters + 1 })

/-! ## Filler -/

/-- The clip position a filler period starts from (R60). -/
def State.fillerStart (s : State) (o : OutletId) : Nat :=
  if (s.outlet o).lastEmission = .program then 0 else (s.outlet o).clipPosition

/-- A period's emission is a filler frame: from the clip when it is Ready, black otherwise (R60, R165). -/
def State.emitFiller (s : State) (o : OutletId) : State :=
  let c := (s.outletCfg o).clip
  let k := s.clip c
  let p := s.fillerStart o
  if k.state = .ready then
    (let q := if k.count ≤ p then 0 else p
     ((s.modOutlet o (fun u => { u with clipPosition := if k.count ≤ q + 1 then 0 else q + 1 })).setFlight o
        (.filler c q)).useClip c o)
  else (s.modOutlet o (fun u => { u with clipPosition := p })).setFlight o .black

/-- A period that airs filler, counted in filler (R74). -/
def State.fillerPeriod (s : State) (o : OutletId) : State :=
  (s.emitFiller o).count o (fun c => { c with filler := c.filler + 1 })

/-- A period that airs black in place of a repeat, counted in filler (R84, R86).  It asks no clip for a frame, and the clip
position stands as it is, though "Filler" of 03_outlets.md speaks of a filler frame there (log entry 48). -/
def State.blackPeriod (s : State) (o : OutletId) : State :=
  (s.setFlight o .black).count o (fun c => { c with filler := c.filler + 1 })

/-! ## The program choice -/

/-- The underrun episode begins, with notice Underrun, unless it has begun (R53). -/
def State.beginEpisode (s : State) (o : OutletId) : State :=
  if (s.outlet o).episode then s
  else (s.modOutlet o (fun u => { u with episode := true })).post (.underrun o (s.outlet o).readMark)

/-- An underrun (R53). -/
def State.underrun (s : State) (o : OutletId) : State :=
  ((s.fillerPeriod o).count o (fun c => { c with underruns := c.underruns + 1 })).beginEpisode o

/-- Passes of a drop run: at most `k` of them (R51); each looks for frames to release and reports the oldest end by
itself (log entry 35). -/
def State.dropPasses (o : OutletId) : Nat → State → State
  | 0, s => s
  | k + 1, s =>
    let n := (s.outlet o).readMark
    if s.isHeld n && s.dropGoverns n then
      State.dropPasses o k ((s.passFrame o).count o (fun c => { c with skipped := c.skipped + 1 }))
    else s

/-- A drop run from N, its new N reported once at the end.  At most D frames from N on are Held (R51). -/
def State.dropRun (s : State) (o : OutletId) : State :=
  let t := State.dropPasses o (s.depth o) s
  if (t.outlet o).readMark = (s.outlet o).readMark then t else t.reportMark o

/-- Frame N is covered: passed, with filler in its place (R55). -/
def State.coverFrame (s : State) (o : OutletId) : State :=
  (((s.passFrame o).count o (fun c => { c with covered := c.covered + 1 })).fillerPeriod o).reportMark o

/-- Frame N is taken and becomes the frame in flight (R55). -/
def State.airFrame (s : State) (o : OutletId) : State :=
  let n := (s.outlet o).readMark
  ((((s.takeFrame o).modOutlet o (fun u => { u with lastProgram := some n, episode := false })).count o
    (fun c => { c with emitted := c.emitted + 1 })).setFlight o (.program n)).reportMark o

/-- The program choice after its drop run (R55). -/
def State.takeOrCover (s : State) (o : OutletId) : State :=
  if s.ingest.mark ≤ (s.outlet o).readMark then s.underrun o
  else if s.coverGoverns (s.outlet o).readMark then s.coverFrame o
  else s.airFrame o

/-- The program choice (R55). -/
def State.programChoice (s : State) (o : OutletId) : State := (s.dropRun o).takeOrCover o

/-! ## Adjustments -/

/-- An insertion is counted, and one adjustment less is deferred (R83). -/
def State.countInsertion (s : State) (o : OutletId) : State :=
  (s.count o (fun c => { c with inserted := c.inserted + 1 })).modOutlet o
    (fun u => { u with deferred := u.deferred - 1 })

/-- A removal is counted, and one adjustment less is deferred (R87). -/
def State.countRemoval (s : State) (o : OutletId) : State :=
  (s.count o (fun c => { c with removed := c.removed + 1 })).modOutlet o
    (fun u => { u with deferred := u.deferred - 1 })

/-- A forced adjustment is counted (R84, R88). -/
def State.countForced (s : State) (o : OutletId) : State :=
  s.count o (fun c => { c with forced := c.forced + 1 })

/-- A pause insertion: frame N airs and N stays (R83). -/
def State.pauseInsertion (s : State) (o : OutletId) : State :=
  let n := (s.outlet o).readMark
  (if s.coverGoverns n then s.fillerPeriod o else (s.replayFrame n).setFlight o (.again n)).countInsertion o

/-- A repeat of the last program frame emitted, or black when a Drop or Cover governs it or it is not Held
(R84, R86). -/
def State.repeatLast (s : State) (o : OutletId) : State :=
  match (s.outlet o).lastProgram with
  | none => s.blackPeriod o
  | some n =>
    if s.dropGoverns n || s.coverGoverns n || !s.isHeld n then s.blackPeriod o
    else (s.replayFrame n).setFlight o (.again n)

/-- A forced insertion (R84); last emission none is treated as filler (log entry 26). -/
def State.forcedInsertion (s : State) (o : OutletId) : State :=
  ((if (s.outlet o).lastEmission = .program then s.repeatLast o else s.fillerPeriod o).countInsertion o).countForced o

/-- A removal: frame N is passed, the program choice is made from the new N, and N is reported (R87). -/
def State.removal (s : State) (o : OutletId) : State :=
  (((s.passFrame o).programChoice o).reportMark o).countRemoval o

/-- A frame's pause mark says that it is a pause frame (R82). -/
def Frame.isPause (f : Frame) : Bool :=
  match f.pause with
  | some m => m.isPause
  | none => false

/-- Whether a pause adjustment is made: an adjustment is deferred and frame N is a pause frame (R82). -/
def State.pauseDue (s : State) (o : OutletId) : Bool :=
  decide (0 < (s.outlet o).deferred) &&
    (match s.heldFrame (s.outlet o).readMark with | some f => f.isPause | none => false)

/-- The period of a Rebuilding outlet: the rows of R82. -/
def State.rebuild (s : State) (o : OutletId) : State :=
  if !s.isHeld (s.outlet o).readMark then s.underrun o
  else if s.pauseDue o then s.pauseInsertion o
  else if (s.outlet o).deferred = 8 then s.forcedInsertion o
  else s.programChoice o

/-- The period of a Squeezing outlet: the rows of R82. -/
def State.squeeze (s : State) (o : OutletId) : State :=
  if s.pauseDue o then s.removal o
  else if (s.outlet o).deferred = 8 then (s.removal o).countForced o
  else s.programChoice o

/-! ## The choice of state and the due step -/

/-- The table of R52. -/
def chooseState (u : OutletState) (depth floor target tolerance : Nat) (exposure : Bool) : OutletState :=
  if depth < floor ∧ exposure = false then .holding
  else
    match u with
    | .off => .off
    | .holding => if depth < target then .rebuilding else .steady
    | .rebuilding => if depth < target then .rebuilding else .steady
    | .steady =>
      if depth + tolerance < target then .rebuilding
      else if target + tolerance < depth then .squeezing
      else .steady
    | .squeezing => if depth ≤ target then .steady else .squeezing
    | .stopping => .stopping

/-- Exposure permitted is cleared once D is at least the floor (R52). -/
def State.clearExposure (s : State) (o : OutletId) : State :=
  if (s.outletCfg o).floor ≤ s.depth o then s.modOutlet o (fun u => { u with exposure := false }) else s

/-- What entering a state does to the two counts and the underrun episode (R79, R53). -/
def Outlet.entered (new : OutletState) (u : Outlet) : Outlet :=
  match new with
  | .holding => { u with spacingCount := 0, deferred := 0, episode := false }
  | .steady => { u with spacingCount := 0, deferred := 0 }
  | .off => u
  | .rebuilding => u
  | .squeezing => u
  | .stopping => u

/-- The choice of state at a period start (R52, R79). -/
def State.stateChoice (s : State) (o : OutletId) : State :=
  let t := s.clearExposure o
  let c := t.outletCfg o
  let new := chooseState (t.outlet o).state (t.depth o) c.floor c.target c.tolerance (t.outlet o).exposure
  if new = (t.outlet o).state then t else (t.changeOutlet o new).modOutlet o (Outlet.entered new)

/-- One adjustment falls due (R80). -/
def State.fallDue (s : State) (o : OutletId) : State :=
  s.modOutlet o (fun u =>
    { u with spacingCount := 0, deferred := min (min (u.deferred + 1) 8) (s.owedAmount o) })

/-- Whether the next count of a period reaches the spacing. -/
def State.dueNext (s : State) (o : OutletId) : Bool :=
  (s.outlet o).spacingCount + 1 == (s.outletCfg o).spacing

/-- The due step of a Rebuilding or Squeezing period (R80).  It changes the deferred count only where an adjustment falls
due, so a count above the owed amount comes down then and not before (log entry 47). -/
def State.dueStep (s : State) (o : OutletId) : State :=
  if s.dueNext o then s.fallDue o else s.modOutlet o (fun u => { u with spacingCount := u.spacingCount + 1 })

/-- What a running outlet emits in a period, by its state (R54). -/
def State.emitPeriod (s : State) (o : OutletId) : State :=
  match (s.outlet o).state with
  | .off => s
  | .holding => s.fillerPeriod o
  | .rebuilding => (s.dueStep o).rebuild o
  | .steady => s.programChoice o
  | .squeezing => (s.dueStep o).squeeze o
  | .stopping => s

/-- The period start of a running outlet after its frame in flight has ended: drop run, choice of state, emission, and
the mute lanes of quarter 0 (R51, R52, R54, R59). -/
def State.runPeriod (s : State) (o : OutletId) : State :=
  (((s.dropRun o).stateChoice o).emitPeriod o).settleMute o

/-- A period start (R50); an outlet whose sink is Lost has none. -/
def State.periodStart (s : State) (o : OutletId) : State :=
  match (s.outlet o).sink, (s.outlet o).state with
  | .lost, _ => s
  | .present, .off => s
  | .present, .stopping => (s.endFlight o).changeOutlet o .off
  | .present, _ => (s.endFlight o).runPeriod o

/-- PERIOD_START. -/
def execPeriodStart (o : OutletId) (s : State) : Host.Outcome State Fault Refusal :=
  event (fun s => s.periodStart o) s

/-- Whether the port can signal a quarter boundary that has an effect: a Present sink, an outlet that is not Off, a
frame in flight, and one of the quarters 1 to 3 (R58). -/
def State.quarterHeard (s : State) (o : OutletId) (q : BitVec 2) : Bool :=
  decide ((s.outlet o).sink = .present) && decide ((s.outlet o).state ≠ .off) &&
    decide ((s.outlet o).inFlight ≠ .none) && decide (q ≠ 0)

/-- A quarter boundary (R58, R59). -/
def State.quarterBoundary (s : State) (o : OutletId) (q : BitVec 2) : State :=
  if s.quarterHeard o q then (s.modOutlet o (fun u => { u with quarter := q })).settleMute o else s

/-- QUARTER_BOUNDARY. -/
def execQuarterBoundary (o : OutletId) (q : BitVec 2) (s : State) : Host.Outcome State Fault Refusal :=
  event (fun s => s.quarterBoundary o q) s

/-- Whether an adjustment can fall due in outlet `o`: its sink is Present and a period is under way, so that it has a
frame in flight, since both counts stay unchanged from a loss of the sink until the next period start after its return
(R78); it is Rebuilding or Squeezing, and its next count reaches the spacing (R80, log entry 13). -/
def State.dueHeard (s : State) (o : OutletId) : Bool :=
  decide ((s.outlet o).sink = .present) && decide ((s.outlet o).inFlight ≠ .none) && (s.outlet o).state.adjusts &&
    s.dueNext o

/-- ADJUSTMENT_FALLS_DUE: the count of a Rebuilding or Squeezing period that reaches the spacing (R80, log entry
13). -/
def State.adjustmentFallsDue (s : State) (o : OutletId) : State := if s.dueHeard o then s.fallDue o else s

/-- ADJUSTMENT_FALLS_DUE. -/
def execAdjustmentFallsDue (o : OutletId) (s : State) : Host.Outcome State Fault Refusal :=
  event (fun s => s.adjustmentFallsDue o) s

/-! ## The sink -/

/-- The output reference is lost (R71). -/
def State.sinkLost (s : State) (o : OutletId) : State :=
  if (s.outlet o).sink = .lost then s
  else
    let t := (s.endFlight o).modOutlet o (fun u => { u with sink := .lost, missed := 0 })
    if (s.outlet o).state = .stopping then t.changeOutlet o .off else t

/-- SINK_LOST. -/
def execSinkLost (o : OutletId) (s : State) : Host.Outcome State Fault Refusal := event (fun s => s.sinkLost o) s

/-- The frames a rejoin passes: D − target when D is above the target (R72). -/
def State.rejoinPasses (s : State) (o : OutletId) : Nat := s.depth o - (s.outletCfg o).target

/-- A running outlet rejoins (R72). -/
def State.rejoin (s : State) (o : OutletId) : State :=
  let k := s.rejoinPasses o
  let t :=
    if k = 0 then s
    else ((s.passFrames o k).count o (fun c => { c with skipped := c.skipped + BitVec.ofNat 32 k })).reportMark o
  t.post (.rejoined o k)

/-- The output reference returns (R72). -/
def State.sinkReturned (s : State) (o : OutletId) : State :=
  if (s.outlet o).sink = .present then s
  else
    let t := s.modOutlet o (fun u => { u with sink := .present })
    if s.isRunning o then t.rejoin o else t

/-- SINK_RETURNED. -/
def execSinkReturned (o : OutletId) (s : State) : Host.Outcome State Fault Refusal :=
  event (fun s => s.sinkReturned o) s

/-! ## Read errors -/

/-- A Held frame is found unreadable: a Whole one becomes Damaged, with notice FrameDamaged (R21). -/
def State.damageFrame (s : State) (n : Nat) (reader : Reader) : State :=
  match s.heldFrame n with
  | none => s
  | some f =>
    if f.condition = .whole then (s.modFrame n Frame.spoil).post (.frameDamaged n reader) else s

/-- The page data of the frame in flight has ended for the rest of the period (R21, R22). -/
def State.loseData (s : State) (o : OutletId) : State := s.modOutlet o (fun u => { u with dataLost := true })

/-- A read error on a page of a Held frame, at the reader's frame (R21). -/
def State.storeReadError (s : State) (reader : Reader) : State :=
  match reader with
  | .outlet o =>
    (match flightFrame (s.outlet o).inFlight with
     | none => s
     | some n => (s.damageFrame n reader).loseData o)
  | .copyEngine =>
    match s.bank.engine with
    | .idle => s
    | .copying _ n _ => (s.damageFrame n reader).abortGrab .readError

/-- STORE_READ_ERROR. -/
def execStoreReadError (reader : Reader) (s : State) : Host.Outcome State Fault Refusal :=
  event (fun s => s.storeReadError reader) s

/-- A read error on a page of the filler frame that outlet `o` emits (R22). -/
def State.fillerReadError (s : State) (o : OutletId) : State :=
  match (s.outlet o).inFlight with
  | .none => s
  | .program _ => s
  | .again _ => s
  | .filler _ _ => s.loseData o
  | .black => s

/-- FILLER_READ_ERROR. -/
def execFillerReadError (o : OutletId) (s : State) : Host.Outcome State Fault Refusal :=
  event (fun s => s.fillerReadError o) s

/-! ## Starting and stopping -/

/-- The three start modes (R62), numbered from 0 in the order the rule lists them. -/
inductive StartMode where
  | hold
  | stretch
  | history
  deriving DecidableEq, Repr

/-- A start mode as received. -/
def startMode (b : Byte) : Option StartMode :=
  if b = 0 then some .hold else if b = 1 then some .stretch else if b = 2 then some .history else none

/-- The state a start enters (R63, R64). -/
def startState (mode : StartMode) (floor target : Nat) : OutletState :=
  match mode with
  | .hold => if 0 < floor then .holding else if 0 < target then .rebuilding else .steady
  | .stretch => .rebuilding
  | .history => .holding

/-- The record of an outlet at a start with read mark `n` (R62).  The quarter, which the rule does not name, stands as it
is (log entry 46). -/
def Outlet.started (mode : StartMode) (state : OutletState) (n : Nat) (u : Outlet) : Outlet :=
  { u with
    state := state, readMark := n, spacingCount := 0, deferred := 0, exposure := decide (mode = .stretch)
    inFlight := .none, lastEmission := .none, lastProgram := none, clipPosition := 0, episode := false }

/-- An Off outlet starts, `k` frames back for History (R62, R63, R64). -/
def State.startOutlet (s : State) (o : OutletId) (mode : StartMode) (k : Nat) : State :=
  let n := if mode = .history then s.ingest.mark - k else s.ingest.mark
  let new := startState mode (s.outletCfg o).floor (s.outletCfg o).target
  let t := ((s.modOutlet o (Outlet.started mode new n)).joinOwing o).cutsStarted o
  let t := t.post (.outletState o (s.outlet o).state new (s.ingest.mark - n))
  if mode = .stretch then t.post (.exposed o (s.outletCfg o).floor) else t

/-- OUTLET START at its owner (R62). -/
def State.onOutletStart (s : State) (outlet mode : Byte) (k : Half) : State × Answer :=
  match index 4 outlet, startMode mode with
  | some o, some m =>
    if (s.outlet o).state ≠ .off then refuse s .stateWrong
    else if m = .history ∧ (s.store.held.length < k.toNat ∨ Config.depthMax < k.toNat) then refuse s .badValue
    else
      let t := s.startOutlet o m k.toNat
      done t ([(t.outlet o).state.toByte] ++ markBytes (t.outlet o).readMark)
  | _, _ => refuse s .badValue

/-- The record of an outlet at a stop (R65). -/
def Outlet.stopped (state : OutletState) (u : Outlet) : Outlet :=
  { u with
    state := state, spacingCount := 0, deferred := 0, exposure := false, unlockOpen := false, episode := false }

/-- A running outlet stops (R65). -/
def State.stopOutlet (s : State) (o : OutletId) : State :=
  let new : OutletState := if (s.outlet o).sink = .lost then .off else .stopping
  ((((s.cutsStopped o).leaveOwing o).modOutlet o (Outlet.stopped new)).release).post
    (.outletState o (s.outlet o).state new 0)

/-- OUTLET STOP at its owner (R65). -/
def State.onOutletStop (s : State) (outlet : Byte) : State × Answer :=
  match index 4 outlet with
  | none => refuse s .badValue
  | some o => if s.isRunning o then done (s.stopOutlet o) [] else refuse s .stateWrong

/-! ## Target, floor, shape and clip -/

/-- The deferred count of a running outlet is limited to the owed amount (R67, R81). -/
def State.limitDeferred (s : State) (o : OutletId) : State :=
  if s.isRunning o then s.modOutlet o (fun u => { u with deferred := min u.deferred (s.owedAmount o) }) else s

/-- The target of outlet `o` is set (R67, R68). -/
def State.setTarget (s : State) (o : OutletId) (target : Nat) : State :=
  (s.modOutletCfg o (fun c => { c with target := target })).limitDeferred o

/-- OUTLET TARGET at its owner (R67). -/
def State.onOutletTarget (s : State) (outlet : Byte) (target : Half) : State × Answer :=
  match index 4 outlet with
  | none => refuse s .badValue
  | some o =>
    if target.toNat < (s.outletCfg o).floor ∨ Config.depthMax < target.toNat then refuse s .badValue
    else done (s.setTarget o target.toNat) (u16 target.toNat)

/-- The floor of outlet `o` is set, and the target raised to it if it is lower (R69). -/
def State.setFloor (s : State) (o : OutletId) (floor : Nat) : State :=
  let t := s.modOutletCfg o (fun c => { c with floor := floor })
  if (s.outletCfg o).target < floor then t.setTarget o floor else t

/-- The decision of OUTLET FLOOR, before floor unlock becomes Closed (R69). -/
def State.decideFloor (s : State) (o : OutletId) (floor : Nat) : State × ResultCode :=
  if Config.depthMax < floor then (s, .badValue)
  else if (s.outletCfg o).floor ≤ floor ∨ (s.outlet o).unlockOpen = true then (s.setFloor o floor, .done)
  else (s, .locked)

/-- OUTLET FLOOR at its owner (R69). -/
def State.onOutletFloor (s : State) (outlet : Byte) (floor : Half) : State × Answer :=
  match index 4 outlet with
  | none => refuse s .badValue
  | some o =>
    let x := s.decideFloor o floor.toNat
    let t := x.1.modOutlet o (fun u => { u with unlockOpen := false })
    (t, { code := x.2, fields := u16 (t.outletCfg o).floor ++ u16 (t.outletCfg o).target })

/-- FLOOR UNLOCK at its owner (R70). -/
def State.onFloorUnlock (s : State) (outlet : Byte) (key : Half) : State × Answer :=
  match index 4 outlet with
  | none => refuse s .badValue
  | some o =>
    if key = s.settings.current.floorKey then done (s.modOutlet o (fun u => { u with unlockOpen := true })) []
    else refuse s .badKey

/-- The shape of outlet `o` is set; a spacing count at or above the new spacing comes down to one less (R91). -/
def State.setShape (s : State) (o : OutletId) (spacing tolerance : Nat) : State :=
  (s.modOutletCfg o (fun c => { c with spacing := spacing, tolerance := tolerance })).modOutlet o
    (fun u => { u with spacingCount := min u.spacingCount (spacing - 1) })

/-- OUTLET SHAPE at its owner (R91). -/
def State.onOutletShape (s : State) (outlet spacing tolerance : Byte) : State × Answer :=
  match index 4 outlet with
  | none => refuse s .badValue
  | some o =>
    if spacing.toNat < 4 ∨ 64 < spacing.toNat ∨ tolerance.toNat < 1 ∨ 8 < tolerance.toNat then refuse s .badValue
    else
      let t := s.setShape o spacing.toNat tolerance.toNat
      done t ([spacing, tolerance] ++ u8 (t.outlet o).spacingCount ++ u8 (t.outlet o).deferred)

/-- The clip of outlet `o` is set, and the clip position becomes 0 (R61). -/
def State.setClip (s : State) (o : OutletId) (c : ClipId) : State :=
  (s.modOutletCfg o (fun x => { x with clip := c })).modOutlet o (fun u => { u with clipPosition := 0 })

/-- OUTLET CLIP at its owner (R61). -/
def State.onOutletClip (s : State) (outlet clip : Byte) : State × Answer :=
  match index 4 outlet, index 8 clip with
  | some o, some c => done (s.setClip o c) []
  | _, _ => refuse s .badValue

/-- OUTLET READ at its owner (R75). -/
def State.onOutletRead (s : State) (outlet clear : Byte) : State × Answer :=
  match index 4 outlet, yesNo clear with
  | some o, some c => done (if c then s.count o (fun _ => OutletCounters.zero) else s) (s.outletReport o)
  | _, _ => refuse s .badValue

end Sys2Proof.Machine
end

