-- ==== Sys2Proof/Machine/Watch.lean ====
section
/-! DEFINITION. The Watch Unit: items, takes, actions, answers, and the requests of a slot (07_watch_slots.md). -/

namespace Sys2Proof.Machine

/-! ## Items -/

/-- An item offered at a completion is its would-be capture: the frame's number and timecode, with the cue word of a
cue item (R43). -/
abbrev Item := Capture

/-- The items of a completed frame: each cue word in list order, then the timecode (R43). -/
def frameItems (n : Nat) (t : Timecode) (cues : List Half) : List Item :=
  cues.map (fun w => { seq := n, timecode := t, cue := some w }) ++ [{ seq := n, timecode := t, cue := none }]

/-- A cue word meets a Cue slot's criteria (R143). -/
def WatchConfig.meetsCue (c : WatchConfig) (w : Half) : Bool := (w ^^^ c.pattern) &&& c.mask == 0

/-- A timecode meets a Timecode slot's criteria (R144). -/
def WatchConfig.meetsTimecode (c : WatchConfig) (t : Timecode) : Bool :=
  (!member c.compare 0 || c.timecode.hh.toNat == t.hh) && (!member c.compare 1 || c.timecode.mm.toNat == t.mm) &&
    (!member c.compare 2 || c.timecode.ss.toNat == t.ss) && (!member c.compare 3 || c.timecode.ff.toNat == t.ff)

/-- Whether an item is of a configuration's source and meets its criteria (R142). -/
def WatchConfig.meets (c : WatchConfig) (x : Item) : Bool :=
  match c.source, x.cue with
  | .cue, some w => c.meetsCue w
  | .cue, none => false
  | .timecode, some _ => false
  | .timecode, none => c.meetsTimecode x.timecode

/-- Whether an Armed slot would take an item (R142). -/
def Slot.wants (k : Slot) (x : Item) : Bool :=
  decide (k.state = .armed) && (match k.config with | some c => c.meets x | none => false)

/-- The sixteen slots, in order. -/
def slotIds : List SlotId := List.finRange 16

/-- The slot that takes an item: the lowest-numbered Armed one whose criteria it meets (R142). -/
def State.taker (s : State) (x : Item) : Option SlotId := slotIds.find? (fun k => (s.slot k).wants x)

/-! ## Actions -/

/-- Notice WatchCapture of a take whose action result is known at the take (R146, R147). -/
def State.reportTake (s : State) (k : SlotId) (x : Item) (lost : Bool) (r : ActionResult) (d : ResultDetail) : State :=
  (s.modSlot k (fun y => { y with result := r, detail := d })).post (.watchCapture k x lost r d)

/-- A Cut or Retarget request joins the action queue, and the action result becomes Pending (R147, log entry 24). -/
def State.enqueueAction (s : State) (k : SlotId) (x : Item) (lost : Bool) (a : WatchAction) (waiting : OutletSet) :
    State :=
  let e : ActionEntry :=
    { slot := k, capture := x, lost := lost, action := a, current := true, waiting := waiting, clipped := 0 }
  let t := s.modSlot k (fun y => { y with result := .pending, detail := .none })
  { t with watch := { t.watch with queue := t.watch.queue ++ [e] } }

/-- The slot starts its action (R145, step 3). -/
def State.startAction (s : State) (k : SlotId) (x : Item) (lost : Bool) (a : WatchAction) : State :=
  match a with
  | .report => s.reportTake k x lost .taken .none
  | .cut _ _ _ _ =>
    if s.watch.queue.length < Config.actionEntries then s.enqueueAction k x lost a 0
    else s.reportTake k x lost (.refused .busy) (.code .busy)
  | .retarget set _ =>
    if s.watch.queue.length < Config.actionEntries then s.enqueueAction k x lost a set
    else s.reportTake k x lost (.refused .busy) (.code .busy)

/-- A Once slot becomes Spent at its take (R145, step 4). -/
def Slot.afterTake (mode : WatchMode) (y : Slot) : Slot :=
  match mode with
  | .once => { y with state := .spent }
  | .repeating => y

/-- Slot `k` takes an item (R145). -/
def State.slotTake (s : State) (k : SlotId) (x : Item) : State :=
  match (s.slot k).config with
  | none => s
  | some c =>
    let lost := (s.slot k).capture.isSome
    let t := s.modSlot k (fun y => { y with lost := y.lost || y.capture.isSome, capture := some x })
    (t.startAction k x lost c.action).modSlot k (Slot.afterTake c.mode)

/-- An item is offered: its taker takes it, or it is discarded (R142). -/
def State.offer (s : State) (x : Item) : State :=
  match s.taker x with
  | some k => s.slotTake k x
  | none => s

/-- Items offered one after another (R43). -/
def State.offerAll (s : State) (xs : List Item) : State := xs.foldl State.offer s

/-! ## Answers -/

/-- Whether the entry just removed, before `rest`, is the newest current entry of its slot (R150). -/
def ActionEntry.newest (e : ActionEntry) (rest : List ActionEntry) : Bool :=
  e.current && !rest.any (fun x => x.current && x.slot == e.slot)

/-- The entry at position `i` of the action queue is answered: it leaves the queue, its slot's result takes the answer
if it is the newest current one, and WatchCapture is queued (R150). -/
def State.answerEntry (s : State) (i : Nat) (e : ActionEntry) (r : ActionResult) (d : ResultDetail) : State :=
  let rest := s.watch.queue.drop (i + 1)
  let t := { s with watch := { s.watch with queue := s.watch.queue.eraseIdx i } }
  let t := if e.newest rest then t.modSlot e.slot (fun y => { y with result := r, detail := d }) else t
  t.post (.watchCapture e.slot e.capture e.lost r d)

/-- The Cut Table's answer as an action result with its detail (R148). -/
def CutAnswer.asAction (a : CutAnswer) : ActionResult × ResultDetail :=
  match a.record with
  | none => (.refused a.code, .code a.code)
  | some (r, _) =>
    if a.code = .merged then (.merged, .record r.id)
    else if a.code = .widened then (.widened, .record r.id)
    else (.taken, .record r.id)

/-- Whether an entry is a Cut. -/
def ActionEntry.isCut (e : ActionEntry) : Bool :=
  match e.action with
  | .report => false
  | .cut _ _ _ _ => true
  | .retarget _ _ => false

/-- The Cut Table takes the oldest Cut request of the action queue and answers it (R147, R148, R150, log entry 15). -/
def State.watchCut (s : State) : State :=
  match s.watch.queue.findIdx? ActionEntry.isCut with
  | none => s
  | some i =>
    match s.watch.queue[i]? with
    | none => s
    | some e =>
      match e.action with
      | .report => s
      | .retarget _ _ => s
      | .cut kind lanes pre post =>
        let x := s.slotCut e.slot kind lanes e.capture.seq pre post
        x.1.answerEntry i e x.2.asAction.1 x.2.asAction.2

/-- WATCH_CUT. -/
def execWatchCut (s : State) : Host.Outcome State Fault Refusal := event State.watchCut s

/-- Outlet `o` takes a Retarget: below the floor the target becomes the floor (R68). -/
def State.takeRetarget (s : State) (o : OutletId) (target : Nat) : State :=
  s.setTarget o (max target (s.outletCfg o).floor)

/-- Whether a Retarget to `target` is answered Clipped by outlet `o` (R68). -/
def State.retargetClips (s : State) (o : OutletId) (target : Nat) : Bool := decide (target < (s.outletCfg o).floor)

/-- An entry after outlet `o` has answered it (R149). -/
def ActionEntry.answeredBy (o : OutletId) (clips : Bool) (e : ActionEntry) : ActionEntry :=
  { e with
    waiting := removeBit e.waiting o.val
    clipped := if clips then insertBit e.clipped o.val else e.clipped }

/-- The result of a Retarget once every outlet it names has answered (R149). -/
def ActionEntry.retargetResult (e : ActionEntry) : ActionResult × ResultDetail :=
  if e.clipped = 0 then (.taken, .none) else (.clipped, .outlets e.clipped)

/-- An outlet's answer is kept with the entry, which is answered when none is waited for (R149, R150). -/
def State.retargetAnswered (s : State) (i : Nat) (e : ActionEntry) : State :=
  if e.waiting = 0 then s.answerEntry i e e.retargetResult.1 e.retargetResult.2
  else { s with watch := { s.watch with queue := s.watch.queue.set i e } }

/-- Outlet `o` takes the oldest Retarget that waits for it (R68, R147, R149, log entry 15). -/
def State.retarget (s : State) (o : OutletId) : State :=
  match s.watch.queue.findIdx? (fun e => member e.waiting o.val) with
  | none => s
  | some i =>
    match s.watch.queue[i]? with
    | none => s
    | some e =>
      match e.action with
      | .report => s
      | .cut _ _ _ _ => s
      | .retarget _ target =>
        (s.takeRetarget o target).retargetAnswered i (e.answeredBy o (s.retargetClips o target))

/-- RETARGET. -/
def execRetarget (o : OutletId) (s : State) : Host.Outcome State Fault Refusal := event (fun s => s.retarget o) s

/-! ## The configuration as received -/

/-- A compared field of a Timecode slot lies outside its range (R140, R152). -/
def timecodeBad (t : RawTimecode) (compare : BitVec 4) : Bool :=
  (member compare 0 && decide (23 < t.hh.toNat)) || (member compare 1 && decide (59 < t.mm.toNat)) ||
    (member compare 2 && decide (59 < t.ss.toNat)) || (member compare 3 && decide (29 < t.ff.toNat))

/-- The action of WATCH SET from its fields; none when a field it uses is refused (R152). -/
def actionOf (w : WatchFields) : Option WatchAction :=
  if w.action = 0 then some .report
  else if w.action = 1 then
    (match kindOf w.kind with
     | none => none
     | some k =>
       if lanesBad k (lanesOf w.lanes) then none
       else some (.cut k (lanesOf w.lanes) w.pre.toNat w.post.toNat))
  else if w.action = 2 then
    (if outletsOf w.outlets = 0 ∨ Config.depthMax < w.target.toNat then none
     else some (.retarget (outletsOf w.outlets) w.target.toNat))
  else none

/-- The source of WATCH SET as received, its compared timecode fields checked (R152). -/
def sourceOf (w : WatchFields) : Option WatchSource :=
  if w.source = 0 then some .cue
  else if w.source = 1 then (if timecodeBad w.timecode (w.compare.setWidth 4) then none else some .timecode)
  else none

/-- The mode of WATCH SET as received. -/
def modeOf (b : Byte) : Option WatchMode :=
  if b = 0 then some .once else if b = 1 then some .repeating else none

/-- The configuration of WATCH SET; none when it is refused BadValue (R152). -/
def configOf (w : WatchFields) : Option WatchConfig :=
  match sourceOf w, modeOf w.mode, actionOf w with
  | some src, some m, some a =>
    some { source := src, pattern := w.pattern, mask := w.mask, timecode := w.timecode
           compare := w.compare.setWidth 4, mode := m, action := a }
  | _, _, _ => none

/-! ## Requests -/

/-- A refusal that carries the slot report (R151). -/
def refuseSlot (s : State) (k : SlotId) (c : ResultCode) : State × Answer := (s, { code := c, fields := s.slotReport k })

/-- The entries of a slot in the action queue are no longer current (R152). -/
def State.uncurrent (s : State) (k : SlotId) : State :=
  { s with watch := { s.watch with
      queue := s.watch.queue.map (fun e => if e.slot = k then { e with current := false } else e) } }

/-- WATCH SET at its owner (R152). -/
def State.onWatchSet (s : State) (slot : Byte) (w : WatchFields) : State × Answer :=
  match index 16 slot with
  | none => refuse s .badValue
  | some k =>
    if (s.slot k).state ≠ .disabled then refuseSlot s k .slotBusy
    else
      match configOf w with
      | none => refuseSlot s k .badValue
      | some c =>
        let t := (s.modSlot k (fun y => { y with config := some c, result := .none, detail := .none })).uncurrent k
        done t (t.slotReport k)

/-- WATCH ARM at its owner (R153). -/
def State.onWatchArm (s : State) (slot : Byte) : State × Answer :=
  match index 16 slot with
  | none => refuse s .badValue
  | some k =>
    if (s.slot k).state = .disabled ∧ (s.slot k).config = none then refuseSlot s k .stateWrong
    else
      let t := s.modSlot k (fun y => { y with state := .armed })
      done t (t.slotReport k)

/-- The capture and lost flag of a slot are cleared (R154, R155). -/
def Slot.cleared (y : Slot) : Slot := { y with capture := none, lost := false }

/-- WATCH DISARM at its owner; the reply carries the capture and lost flag as they stood (R154). -/
def State.onWatchDisarm (s : State) (slot : Byte) : State × Answer :=
  match index 16 slot with
  | none => refuse s .badValue
  | some k =>
    let t := s.modSlot k (fun y => { y.cleared with state := .disabled })
    done t (t.slotReportWith k (s.slot k).capture (s.slot k).lost)

/-- WATCH READ at its owner; the reply carries the capture and lost flag as they stood (R155). -/
def State.onWatchRead (s : State) (slot : Byte) : State × Answer :=
  match index 16 slot with
  | none => refuse s .badValue
  | some k =>
    let t := s.modSlot k Slot.cleared
    done t (t.slotReportWith k (s.slot k).capture (s.slot k).lost)

end Sys2Proof.Machine
end

