-- ==== Sys2Proof/Machine/Ingest.lean ====
section
/-! DEFINITION. The Ingest Unit: conditions, the making of a frame, its completion, and the requests of ingest
(02_ingest.md); with RETAIN SET, whose setting a completion works under (R15). -/

namespace Sys2Proof.Machine

/-! ## States -/

/-- Ingest changes its state, with notice IngestState; the cause is kept (R27). -/
def State.changeIngest (s : State) (new : IngestState) (cause : IngestCause) : State :=
  (s.modIngest (fun u => { u with state := new, cause := cause })).post
    (.ingestState new s.ingest.state cause s.ingest.mark)

/-- The state ingest enters by its recorded conditions (R29). -/
def stateFor (source reference : Presence) : IngestState :=
  match reference, source with
  | .lost, _ => .unclocked
  | .present, .lost => .bridging
  | .present, .present => .running

/-! ## Timecode -/

/-- A carried timecode, when each field lies in its range at the frame rate (R37). -/
def carriedTimecode (rate : Nat) (t : RawTimecode) : Option Timecode :=
  if t.hh.toNat < 24 ∧ t.mm.toNat < 60 ∧ t.ss.toNat < 60 ∧ t.ff.toNat < rate then
    some { hh := t.hh.toNat, mm := t.mm.toNat, ss := t.ss.toNat, ff := t.ff.toNat, source := .carried }
  else none

/-- A timecode plus one frame, synthesized (R37). -/
def nextTimecode (rate : Nat) (t : Timecode) : Timecode :=
  if t.ff + 1 < rate then { t with ff := t.ff + 1, source := .synthesized }
  else if t.ss + 1 < 60 then { t with ss := t.ss + 1, ff := 0, source := .synthesized }
  else if t.mm + 1 < 60 then { t with mm := t.mm + 1, ss := 0, ff := 0, source := .synthesized }
  else if t.hh + 1 < 24 then { hh := t.hh + 1, mm := 0, ss := 0, ff := 0, source := .synthesized }
  else { hh := 0, mm := 0, ss := 0, ff := 0, source := .synthesized }

/-- The synthesized timecode: the tracker's plus one frame, or 00:00:00:00 (R37). -/
def synthesized (rate : Nat) (tracker : Option Timecode) : Timecode :=
  match tracker with
  | some t => nextTimecode rate t
  | none => { hh := 0, mm := 0, ss := 0, ff := 0, source := .synthesized }

/-- The timecode of a frame at its completion (R37). -/
def decideTimecode (rate : Nat) (tracker : Option Timecode) (carried : Option RawTimecode) : Timecode :=
  match carried with
  | none => synthesized rate tracker
  | some t => (carriedTimecode rate t).getD (synthesized rate tracker)

/-! ## The A1 peak -/

/-- The bytes of a lane kept in a chain, in order. -/
def laneData (l : Lane) (pages : List Page) : List Byte :=
  pages.flatMap (fun p => if p.lane = l then p.data else [])

/-- Data cut into samples of `w` bytes; at most `k` of them.  Bytes left over at the end, fewer than `w`, count as a
sample of their own (log entry 9). -/
def samples (w : Nat) : Nat → List Byte → List (List Byte)
  | 0, _ => []
  | k + 1, data => if data = [] then [] else data.take w :: samples w k (data.drop w)

/-- The greatest magnitude among the samples of A1. -/
def greatestMagnitude (data : List Byte) : Nat :=
  (samples Config.sampleWidth data.length data).foldl (fun m x => max m (Config.sampleMagnitude x)) 0

/-- The greatest k up to the bound with magnitude · 10^(k/20) at most full scale, in whole numbers; 0 if there is
none. -/
def decibelsBelow (magnitude full : Nat) : Nat → Nat
  | 0 => 0
  | k + 1 => if magnitude ^ 20 * 10 ^ (k + 1) ≤ full ^ 20 then k + 1 else decibelsBelow magnitude full k

/-- The level of a magnitude, rounded up to a whole number of dBFS from −96 to 0 (R38). -/
def levelOf (magnitude full : Nat) : Int := - Int.ofNat (decibelsBelow magnitude full 96)

/-- The A1 peak of a chain: −96 when it holds no A1 data (R38). -/
def a1Peak (pages : List Page) : Int :=
  let data := laneData laneA1 pages
  if data = [] then -96 else levelOf (greatestMagnitude data) Config.fullScale

/-- The pause mark of a frame under the current settings (R38). -/
def decidePause (c : Settings) (f : Frame) : PauseMark :=
  { isPause := decide (a1Peak f.pages < c.threshold) || (c.cueEnable && f.cues.contains c.pauseCue) ||
      decide (f.condition = .empty)
    peak := a1Peak f.pages }

/-! ## Completion -/

/-- The timecode that the open frame's start carried. -/
def PortFrame.carried : PortFrame → Option RawTimecode
  | .closed => none
  | .withRecord f => f.carried
  | .withoutRecord => none

/-- The filling frame as it completes: timecode, pause mark and owing set (R35, R9). -/
def State.completedFrame (s : State) (f : Frame) : Frame :=
  { f with
    timecode := some (decideTimecode s.settings.current.rate s.ingest.tracker s.ingest.port.carried)
    pause := some (decidePause s.settings.current f)
    owing := s.runningSet, emitting := 0, grabHold := false }

/-- Frames missed rises by 1 at a completion, for each outlet whose sink is Lost, and stays at 65,535 (R71). -/
def State.countMissed (s : State) : State :=
  { s with outlets := s.outlets.map (fun u => if u.sink = .lost then { u with missed := min (u.missed + 1) 65535 } else u) }

/-- Steps 1 to 3 of a completion: the frame is Held, I rises by 1, and the tracker takes the timecode (R35); an empty
ring has a new oldest end (R9, R17). -/
def State.completeHeld (s : State) (f : Frame) : State :=
  let x := s.completedFrame f
  let t := { s with store := { held := s.store.held ++ [x], filling := none } }
  let t := (t.modIngest (fun u => { u with mark := u.mark + 1, tracker := x.timecode, port := .closed })).countMissed
  if s.store.held = [] then t.reportOldest else t

/-- Ingest stops when frame 4,294,967,295 has completed (R41). -/
def State.sequenceEnd (s : State) : State :=
  if s.ingest.mark = Config.numberEnd then s.changeIngest .stopped .sequenceEnd else s

/-- Steps 4 to 6 of the completion of a frame, then the look for frames to release (R35).  All items are offered in this
one event (log entry 37). -/
def State.completeRest (s : State) (x : Frame) : State :=
  let t := s.modIngest (fun u =>
    { u with
      completed := u.completed + 1
      damaged := if x.condition = .damaged then u.damaged + 1 else u.damaged })
  let items := match x.timecode with | some tc => frameItems x.seq tc x.cues | none => []
  ((t.offerAll items).sequenceEnd).release

/-- The filling frame completes (R35). -/
def State.complete (s : State) : State :=
  match s.store.filling with
  | none => s
  | some f => (s.completeHeld f).completeRest (s.completedFrame f)

/-- An open frame ends early: with a record it completes Damaged, without one it closes (R36). -/
def State.endEarly (s : State) : State :=
  match s.ingest.port with
  | .closed => s
  | .withRecord _ => (s.modFilling Frame.spoil).complete
  | .withoutRecord => s.modIngest (fun u => { u with port := .closed })

/-! ## Frame start -/

/-- A record request is refused (R31, R40). -/
def State.recordRefused (s : State) (port : PortFrame) : State :=
  (s.modIngest (fun u => { u with refused := u.refused + 1, port := port })).post (.ingestRefused s.ingest.mark)

/-- The fill state of a frame that starts (R31). -/
def FillState.start (timecode : Option RawTimecode) : FillState :=
  { lane := none, truncated := false, carried := timecode }

/-- A record is made Filling, and E becomes I (R31, R42). -/
def State.beginFrame (s : State) (timecode : Option RawTimecode) (before : Option Nat) : State :=
  ((s.setFilling (some (Frame.fresh s.ingest.mark .whole))).modIngest
    (fun u => { u with port := .withRecord (FillState.start timecode) })).edgeMoved before

/-- A frame start taken in Running with no frame open (R31). -/
def State.openFrame (s : State) (timecode : Option RawTimecode) : State :=
  match s.recordRoom with
  | some t => t.beginFrame timecode s.edge
  | none => s.recordRefused .withoutRecord

/-- A frame start: taken in Running, where it first ends any open frame (R28, R31).  Ingest that has stopped at the end
of numbering discards it (R41, log entry 18). -/
def State.frameStart (s : State) (timecode : Option RawTimecode) : State :=
  if s.ingest.state = .running then
    (let t := s.endEarly
     if t.ingest.state = .running then t.openFrame timecode else t)
  else s

/-- FRAME_START. -/
def execFrameStart (timecode : Option RawTimecode) (s : State) : Host.Outcome State Fault Refusal :=
  event (fun s => s.frameStart timecode) s

/-! ## Section data -/

/-- Changes the fill state of an open frame with a record. -/
def State.modFill (s : State) (f : FillState → FillState) : State :=
  s.modIngest (fun u =>
    { u with port := match u.port with
        | .closed => .closed
        | .withRecord x => .withRecord (f x)
        | .withoutRecord => .withoutRecord })

/-- The filling frame is truncated (R8, R33). -/
def State.truncate (s : State) : State := (s.modFilling Frame.spoil).modFill (fun x => { x with truncated := true })

/-- The bytes that still fit in the last page of a chain for a lane: none when the lane has no page yet (R33). -/
def pageRoomLeft (l : Lane) (pages : List Page) : Nat :=
  match pages.getLast? with
  | some p => if p.lane = l then Config.pageBytes - p.data.length else 0
  | none => 0

/-- A page with more bytes. -/
def Page.append (p : Page) (data : List Byte) : Page := { p with data := p.data ++ data }

/-- Bytes added to the last page of a chain. -/
def fillLast (pages : List Page) (data : List Byte) : List Page :=
  match pages.getLast? with
  | some p => pages.dropLast ++ [p.append data]
  | none => pages

/-- A page with its first bytes joins the chain, and its lane joins lanes present (R8, R33). -/
def Frame.addPage (l : Lane) (data : List Byte) (f : Frame) : Frame :=
  { f with pages := f.pages ++ [{ lane := l, data := data }], lanes := insertBit f.lanes l.val }

/-- Pages in the chain of the filling frame. -/
def State.chainLength (s : State) : Nat := match s.store.filling with | some f => f.pages.length | none => 0

/-- The bytes of a piece that need new pages, a page at a time; a page that is not given, or would be the 65th,
truncates the frame (R33).  Each page takes at least one byte, so the number of bytes bounds the pages. -/
def State.addPages (l : Lane) : Nat → List Byte → State → State
  | 0, _, s => s
  | k + 1, data, s =>
    if data = [] then s
    else if Config.chainPages ≤ s.chainLength then s.truncate
    else
      let x := State.pageRoom (s.store.held.length + 1) s
      if x.2 then
        State.addPages l k (data.drop Config.pageBytes)
          (x.1.modFilling (Frame.addPage l (data.take Config.pageBytes)))
      else x.1.truncate

/-- The bytes of a piece of lane `l` go into the chain (R33). -/
def State.fillLane (s : State) (l : Lane) (data : List Byte) : State :=
  let room := match s.store.filling with | some f => pageRoomLeft l f.pages | none => 0
  let t := if room = 0 then s else s.modFilling (fun f => { f with pages := fillLast f.pages (data.take room) })
  State.addPages l data.length (data.drop room) t

/-- Whether a piece of lane `l` comes earlier in the order than the lane in progress (R32). -/
def FillState.passed (x : FillState) (l : Lane) : Bool :=
  match x.lane with
  | some m => decide (l < m)
  | none => false

/-- A picture or audio piece of an open frame with a record (R32, R33). -/
def State.takeLane (s : State) (x : FillState) (l : Lane) (data : List Byte) : State :=
  if x.truncated then s
  else if x.passed l then s.modFilling Frame.spoil
  else (s.modFill (fun y => { y with lane := some l })).fillLane l data

/-- A caption piece of an open frame with a record (R34). -/
def Frame.takeCaptions (bytes : List Byte) (f : Frame) : Frame :=
  let kept := (f.captions ++ bytes).take 128
  { f with
    captions := kept
    lanes := if kept = [] then f.lanes else insertBit f.lanes laneC.val
    condition := if f.captions.length + bytes.length ≤ 128 then f.condition else f.condition.spoil }

/-- A cue piece of an open frame with a record (R34). -/
def Frame.takeCue (w : Half) (f : Frame) : Frame :=
  if f.cues.length < 4 then { f with cues := f.cues ++ [w] } else f.spoil

/-- A piece of section data of an open frame with a record. -/
def State.takePiece (s : State) (x : FillState) (piece : Piece) : State :=
  match piece with
  | .picture data => s.takeLane x laneP data
  | .audio track data => s.takeLane x (audioLane track) data
  | .captions bytes => s.modFilling (Frame.takeCaptions bytes)
  | .cue w => s.modFilling (Frame.takeCue w)

/-- Section data: taken in Running for an open frame with a record, discarded otherwise (R28, R31, R36). -/
def State.sectionData (s : State) (piece : Piece) : State :=
  if s.ingest.state = .running then
    (match s.ingest.port with
     | .closed => s
     | .withRecord x => s.takePiece x piece
     | .withoutRecord => s)
  else s

/-- SECTION_DATA. -/
def execSectionData (piece : Piece) (s : State) : Host.Outcome State Fault Refusal :=
  event (fun s => s.sectionData piece) s

/-! ## Frame end -/

/-- A frame end: completes an open frame with a record, closes one without, and is stray otherwise (R31, R35, R36). -/
def State.frameEnd (s : State) : State :=
  if s.ingest.state = .running then
    (match s.ingest.port with
     | .closed => s
     | .withRecord _ => s.complete
     | .withoutRecord => s.modIngest (fun u => { u with port := .closed }))
  else s

/-- FRAME_END. -/
def execFrameEnd (s : State) : Host.Outcome State Fault Refusal := event State.frameEnd s

/-! ## Conditions -/

/-- The source condition is recorded (R27). -/
def State.recordSource (s : State) (x : Presence) : State := s.modIngest (fun u => { u with source := x })

/-- The reference condition is recorded (R27). -/
def State.recordReference (s : State) (x : Presence) : State := s.modIngest (fun u => { u with reference := x })

/-- An open frame ends early and ingest moves on, unless the completion has stopped it (R28, R36, R41). -/
def State.leaveRunning (s : State) (new : IngestState) (cause : IngestCause) : State :=
  if s.endEarly.ingest.state = .running then s.endEarly.changeIngest new cause else s.endEarly

/-- Source lost (R28); a dash of the table changes nothing (log entry 8). -/
def State.sourceLost (s : State) : State :=
  match s.ingest.state with
  | .stopped => s.recordSource .lost
  | .running => (s.recordSource .lost).leaveRunning .bridging .sourceLost
  | .bridging => s
  | .unclocked => s.recordSource .lost

/-- SOURCE_LOST. -/
def execSourceLost (s : State) : Host.Outcome State Fault Refusal := event State.sourceLost s

/-- Source returned (R28). -/
def State.sourceReturned (s : State) : State :=
  match s.ingest.state with
  | .stopped => s.recordSource .present
  | .running => s
  | .bridging => (s.recordSource .present).changeIngest .running .sourceReturned
  | .unclocked => s.recordSource .present

/-- SOURCE_RETURNED. -/
def execSourceReturned (s : State) : Host.Outcome State Fault Refusal := event State.sourceReturned s

/-- Reference lost (R28). -/
def State.referenceLost (s : State) : State :=
  match s.ingest.state with
  | .stopped => s.recordReference .lost
  | .running => (s.recordReference .lost).leaveRunning .unclocked .referenceLost
  | .bridging => (s.recordReference .lost).changeIngest .unclocked .referenceLost
  | .unclocked => s

/-- REFERENCE_LOST. -/
def execReferenceLost (s : State) : Host.Outcome State Fault Refusal := event State.referenceLost s

/-- Reference returned (R28). -/
def State.referenceReturned (s : State) : State :=
  match s.ingest.state with
  | .stopped => s.recordReference .present
  | .running => s
  | .bridging => s
  | .unclocked => (s.recordReference .present).changeIngest (stateFor s.ingest.source .present) .referenceReturned

/-- REFERENCE_RETURNED. -/
def execReferenceReturned (s : State) : Host.Outcome State Fault Refusal := event State.referenceReturned s

/-- An Empty frame is made Filling and completed in the one event; E becomes its number, and the bridged counter rises
(R40, R42).  The edge is reported to the Cut Table before the items are offered and before ingest stops at the end of
numbering (log entry 17). -/
def State.bridgeFrame (s : State) (before : Option Nat) : State :=
  let f := Frame.fresh s.ingest.mark .empty
  let x := s.completedFrame f
  (((s.completeHeld f).edgeMoved before).modIngest (fun u => { u with bridged := u.bridged + 1 })).completeRest x

/-- A reference frame time: one Empty frame in Bridging (R28, R40). -/
def State.referenceFrameTime (s : State) : State :=
  match s.ingest.state with
  | .stopped => s
  | .running => s
  | .bridging =>
    (match s.recordRoom with
     | some t => t.bridgeFrame s.edge
     | none => s.recordRefused s.ingest.port)
  | .unclocked => s

/-- REFERENCE_FRAME_TIME. -/
def execReferenceFrameTime (s : State) : Host.Outcome State Fault Refusal := event State.referenceFrameTime s

/-! ## Requests -/

/-- A refusal that carries the ingest report (R45). -/
def refuseIngest (s : State) (c : ResultCode) : State × Answer := (s, { code := c, fields := s.ingestReport })

/-- An answer of Done that carries the ingest report (R45). -/
def doneIngest (s : State) : State × Answer := done s s.ingestReport

/-- Ingest starts (R29). -/
def State.startIngest (s : State) : State :=
  (s.modIngest (fun u => { u with port := .closed })).changeIngest
    (stateFor s.ingest.source s.ingest.reference) .start

/-- Whether a start of ingest is taken (R29). -/
def State.mayStart (s : State) : Bool :=
  decide (s.ingest.state = .stopped) && decide (s.ingest.mark < Config.numberEnd)

/-- INGEST START at its owner (R29). -/
def State.onIngestStart (s : State) : State × Answer :=
  if s.mayStart then doneIngest s.startIngest else refuseIngest s .stateWrong

/-- The filling frame is discarded (R10), and the edge moves back (R42). -/
def State.discardFilling (s : State) : State :=
  if s.store.filling.isSome then (s.setFilling none).edgeMoved s.edge else s

/-- Ingest stops (R30). -/
def State.stopIngest (s : State) : State :=
  (s.discardFilling.modIngest (fun u => { u with port := .closed })).changeIngest .stopped .stop

/-- INGEST STOP at its owner (R30). -/
def State.onIngestStop (s : State) : State × Answer :=
  if s.ingest.state = .stopped then refuseIngest s .stateWrong else doneIngest s.stopIngest

/-- Whether ingest is Stopped and every outlet is Off (R44, R189). -/
def State.quiet (s : State) : Bool :=
  decide (s.ingest.state = .stopped) && four.all (fun o => decide ((s.outlet o).state = .off))

/-- The frame rate is set, and the tracker becomes absent (R44). -/
def State.setRate (s : State) (rate : Nat) : State :=
  (s.modSettings (fun c => { c with rate := rate })).modIngest (fun u => { u with tracker := none })

/-- A frame rate the part has. -/
def rateOk (r : Nat) : Bool := r == 24 || r == 25 || r == 30

/-- INGEST RATE at its owner (R44, log entry 23). -/
def State.onIngestRate (s : State) (rate : Byte) : State × Answer :=
  if !s.quiet then refuseIngest s .stateWrong
  else if rateOk rate.toNat then doneIngest (s.setRate rate.toNat)
  else refuseIngest s .badValue

/-- The pause settings are set (R39). -/
def State.setPause (s : State) (threshold : Int) (cue : Half) (enable : Bool) : State :=
  s.modSettings (fun c => { c with threshold := threshold, pauseCue := cue, cueEnable := enable })

/-- INGEST PAUSE at its owner (R39, log entry 20). -/
def State.onIngestPause (s : State) (fields : Option PauseFields) : State × Answer :=
  match fields with
  | none => doneIngest s
  | some f =>
    match yesNo f.enable with
    | none => refuseIngest s .badValue
    | some e =>
      if f.threshold.toInt < -60 ∨ -20 < f.threshold.toInt then refuseIngest s .badValue
      else doneIngest (s.setPause f.threshold.toInt f.cue e)

/-- RETAIN SET at its owner: the retention depth is set, and the store looks for frames to release (R15, R16). -/
def State.onRetainSet (s : State) (depth : Half) : State × Answer :=
  if Config.depthMax < depth.toNat then refuse s .badValue
  else done (s.modSettings (fun c => { c with retention := depth.toNat })).release []

/-- The frame of number `n` that the ring holds, with whether it is Held (R23). -/
def State.frameOf (s : State) (n : Nat) : Option (Bool × Frame) :=
  match s.heldFrame n with
  | some f => some (true, f)
  | none =>
    match s.store.filling with
    | some f => if f.seq = n then some (false, f) else none
    | none => none

/-- FRAME READ at its owner (R23). -/
def State.onFrameRead (s : State) (n : BitVec 32) : State × Answer :=
  match s.frameOf n.toNat with
  | some (held, f) => done s (f.bytes held)
  | none => refuse s .outOfStore

end Sys2Proof.Machine
end

