-- ==== Sys2Proof/Machine/Panels.lean ====
section
/-! DEFINITION. The panel lines: packets, standing, buttons, tallies, and the requests of a panel
(06_operator_panels.md). -/

namespace Sys2Proof.Machine

/-! ## Standing -/

/-- The standing decided from an error count (R133). -/
def Standing.decide (x : Standing) (count : Nat) : Standing :=
  match x with
  | .isolated => .isolated
  | .active => if count ≤ 63 then .active else if count ≤ 159 then .warned else .isolated
  | .warned => if count ≤ 63 then .active else if count ≤ 159 then .warned else .isolated

/-- Both lamps of a line are off. -/
def Panel.dark (x : Panel) : Panel := { x with muteLamp := false, coverLamp := false }

/-- The line enters Isolated: its holds are released and its lamps set off (R112, R130, R133). -/
def State.isolate (s : State) (p : PanelId) : State := (s.releaseHolds p).modPanel p Panel.dark

/-- The standing follows the error count, with notice PanelStanding at a change (R133). -/
def State.decideStanding (s : State) (p : PanelId) : State :=
  let x := s.panel p
  let new := x.standing.decide x.errorCount
  if new = x.standing then s
  else
    let t := (s.modPanel p (fun y => { y with standing := new })).post (.panelStanding p x.standing new x.errorCount)
    if new = .isolated then t.isolate p else t

/-- The causes of a bad panel packet (R123). -/
inductive BadCause where
  | check
  | length
  | gap
  deriving DecidableEq, Repr

/-- The bad counter of a cause rises by 1 (R124). -/
def Panel.countBad (cause : BadCause) (x : Panel) : Panel :=
  match cause with
  | .check => { x with badCheck := x.badCheck + 1 }
  | .length => { x with badLength := x.badLength + 1 }
  | .gap => { x with badGap := x.badGap + 1 }

/-- A packet framed in Isolated is discarded (R124, R133). -/
def State.discardPacket (s : State) (p : PanelId) : State :=
  s.modPanel p (fun x => { x with discarded := x.discarded + 1 })

/-- A bad packet (R124). -/
def State.badPacket (s : State) (p : PanelId) (cause : BadCause) : State :=
  if (s.panel p).standing = .isolated then s.discardPacket p
  else
    (s.modPanel p (fun x => { Panel.countBad cause x with errorCount := x.errorCount + 4 })).decideStanding p

/-! ## Buttons -/

/-- A button as received (R197). -/
def buttonOf (b : Byte) : Option Button :=
  if b = 1 then some .drop
  else if b = 2 then some .dropAll
  else if b = 3 then some .mute
  else if b = 4 then some .cover
  else none

/-- The bit of a button in a set of buttons (R191). -/
def Button.index : Button → Nat
  | .drop => 0
  | .dropAll => 1
  | .mute => 2
  | .cover => 3

/-- The last result takes a button message's outcome (R126, R129). -/
def State.setLast (s : State) (p : PanelId) (b : Button) (m : PanelMessage) (r : PressResult) : State :=
  s.modPanel p (fun x => { x with lastResult := some { button := b, message := m, result := r } })

/-- The lamp of a button: on only for a held one (R122). -/
def Panel.lamp (x : Panel) (b : Button) : Bool :=
  match b with
  | .drop => false
  | .dropAll => false
  | .mute => x.muteLamp
  | .cover => x.coverLamp

/-- Sets the lamp of a button. -/
def Panel.setLamp (x : Panel) (b : Button) (on : Bool) : Panel :=
  match b with
  | .drop => x
  | .dropAll => x
  | .mute => { x with muteLamp := on }
  | .cover => { x with coverLamp := on }

/-- Whether a press is Ignored: the button is not enabled, or its lamp is on (R126). -/
def State.pressIgnored (s : State) (p : PanelId) (b : Button) : Bool :=
  !member (s.panelCfg p).buttons b.index || (s.panel p).lamp b

/-- The creation request of a button (R127, R128). -/
def State.pressRequest (s : State) (p : PanelId) (b : Button) : State × CutAnswer :=
  match b with
  | .drop => s.pressDrop p
  | .dropAll => s.pressDropAll p
  | .mute => s.pressHeld p .mute (s.panelCfg p).lanes
  | .cover => s.pressHeld p .cover allLanes

/-- The Cut Table's answer as a last result (R126). -/
def CutAnswer.asPress (a : CutAnswer) : PressResult :=
  match a.record with
  | none => .refused a.code
  | some (r, _) =>
    if a.code = .merged then .merged r.id else if a.code = .widened then .widened r.id else .taken r.id

/-- Whether the answer names an open record that panel `p` holds (R128). -/
def CutAnswer.holds (a : CutAnswer) (p : PanelId) : Bool :=
  match a.record with
  | none => false
  | some (r, _) => r.isOpen && member r.holders p.val

/-- A held button's lamp is set on when the panel now holds its record (R128). -/
def State.lightLamp (s : State) (p : PanelId) (b : Button) (a : CutAnswer) : State :=
  if a.holds p then s.modPanel p (fun x => x.setLamp b true) else s

/-- A PRESS (R126). -/
def State.panelPress (s : State) (p : PanelId) (b : Button) : State :=
  if s.pressIgnored p b then s.setLast p b .press .ignored
  else
    let x := s.pressRequest p b
    (x.1.lightLamp p b x.2).setLast p b .press x.2.asPress

/-- The kind of record a button holds (R128). -/
def Button.heldKind : Button → Option CutKind
  | .drop => none
  | .dropAll => none
  | .mute => some .mute
  | .cover => some .cover

/-- A LET GO (R129).  The last result takes the record's id from the answer of the Cut Table, and has no place for whether
the record closed. -/
def State.releaseButton (s : State) (p : PanelId) (b : Button) : State :=
  match b.heldKind with
  | none => s.setLast p b .letGo .ignored
  | some kind =>
    if (s.panel p).lamp b then
      (let x := s.letGo p kind
       (x.1.modPanel p (fun y => y.setLamp b false)).setLast p b .letGo
        (match x.2 with | some a => .taken a.id | none => .ignored))
    else s.setLast p b .letGo .ignored

/-- The message of a good packet, by its type (R125, R197). -/
def State.panelMessage (s : State) (p : PanelId) (body : List Byte) : State :=
  match body with
  | [] => s
  | [_] => s
  | t :: b :: _ =>
    match buttonOf b with
    | none => s
    | some button =>
      if t = 2 then s.panelPress p button else if t = 3 then s.releaseButton p button else s

/-! ## Tallies -/

/-- A tally is owed: composed at once when the transmitter is Idle (R131). -/
def State.oweTally (s : State) (p : PanelId) : State :=
  match (s.panel p).transmitter with
  | .idle => s.modPanel p (fun x => { x with transmitter := .sending (s.tally p) })
  | .sending _ => s.modPanel p (fun x => { x with tallyOwed := true })

/-- The transmitter finishes a tally (R131). -/
def State.tallySent (s : State) (p : PanelId) : State :=
  match (s.panel p).transmitter with
  | .idle => s
  | .sending _ =>
    if (s.panel p).tallyOwed then
      s.modPanel p (fun x => { x with transmitter := .sending (s.tally p), tallyOwed := false })
    else s.modPanel p (fun x => { x with transmitter := .idle })

/-- TALLY_SENT. -/
def execTallySent (p : PanelId) (s : State) : Host.Outcome State Fault Refusal := event (fun s => s.tallySent p) s

/-! ## Packets -/

/-- Steps 1 and 2 of a good packet (R125). -/
def State.creditPacket (s : State) (p : PanelId) : State :=
  ((s.modPanel p (fun x => { x with errorCount := x.errorCount - 1 })).decideStanding p).modPanel p
    (fun x => { x with good := x.good + 1, packetsTaken := x.packetsTaken + 1 })

/-- A good packet (R125). -/
def State.goodPacket (s : State) (p : PanelId) (body : List Byte) : State :=
  if (s.panel p).standing = .isolated then s.discardPacket p
  else ((s.creditPacket p).panelMessage p body).oweTally p

/-- The end of a panel packet, if it has ended (R123). -/
def State.panelEnd (s : State) (p : PanelId) (e : Option PacketEnd) : State :=
  match e with
  | none => s
  | some (.good body) => s.goodPacket p body
  | some .badLength => s.badPacket p .length
  | some .badCheck => s.badPacket p .check

/-- The receiver of line `p` takes a value. -/
def State.setPanelReceiver (s : State) (p : PanelId) (r : Receiver) : State :=
  s.modPanel p (fun x => { x with receiver := r })

/-- A byte arrives on panel line `p` (R123). -/
def State.panelByte (s : State) (p : PanelId) (b : Byte) : State :=
  let x := receive 16 (s.panel p).receiver b
  (s.setPanelReceiver p x.1).panelEnd p x.2

/-- PANEL_BYTE_RECEIVED. -/
def execPanelByteReceived (p : PanelId) (b : Byte) (s : State) : Host.Outcome State Fault Refusal :=
  event (fun s => s.panelByte p b) s

/-- The gap inside a packet of line `p` expires (R123); between packets none is timed. -/
def State.panelGap (s : State) (p : PanelId) : State :=
  match (s.panel p).receiver with
  | .idle => s
  | .inPacket _ => (s.setPanelReceiver p .idle).badPacket p .gap

/-- PANEL_GAP_EXPIRY. -/
def execPanelGapExpiry (p : PanelId) (s : State) : Host.Outcome State Fault Refusal := event (fun s => s.panelGap p) s

/-! ## Requests -/

/-- The fields of PANEL SET lie outside their ranges (R135). -/
def panelFieldsBad (span lanes : Half) (preroll : Byte) : Bool :=
  decide (span.toNat < 1) || decide (Config.depthMax < span.toNat) || lanesOf lanes == 0 ||
    member (lanesOf lanes) laneP.val || decide (30 < preroll.toNat)

/-- PANEL SET at its owner (R135). -/
def State.onPanelSet (s : State) (panel : Byte) (span lanes : Half) (buttons preroll : Byte) : State × Answer :=
  match index 4 panel with
  | none => refuse s .badValue
  | some p =>
    if panelFieldsBad span lanes preroll then refuse s .badValue
    else
      let t := s.modPanelCfg p (fun _ =>
        { span := span.toNat, lanes := lanesOf lanes, buttons := buttonsOf buttons, preroll := preroll.toNat })
      done t (t.panelReport p)

/-- A line returns to full trust (R134). -/
def State.restorePanel (s : State) (p : PanelId) : State :=
  let t := s.modPanel p (fun x => { x with errorCount := 0, standing := .active, receiver := .idle })
  if (s.panel p).standing = .active then t else t.post (.panelStanding p (s.panel p).standing .active 0)

/-- PANEL RESTORE at its owner (R134). -/
def State.onPanelRestore (s : State) (panel : Byte) : State × Answer :=
  match index 4 panel with
  | none => refuse s .badValue
  | some p =>
    let t := s.restorePanel p
    done t (t.panelReport p)

/-- PANEL READ at its owner (R136). -/
def State.onPanelRead (s : State) (panel : Byte) : State × Answer :=
  match index 4 panel with
  | none => refuse s .badValue
  | some p => done s (s.panelReport p)

end Sys2Proof.Machine
end

