-- ==== Sys2Proof/Machine/SettingsOps.lean ====
section
/-! DEFINITION. The Settings Store: the words of the profile, loading, autostart, saving, and the two requests of the
settings (10_stored_settings_and_start_up.md). -/

namespace Sys2Proof.Machine

/-! ## The words of the profile (R185) -/

/-- A number as a profile word. -/
def numWord (n : Nat) : Half := BitVec.ofNat 16 n

/-- Yes as 1 and no as 0. -/
def boolWord (b : Bool) : Half := if b then 1 else 0

/-- One outlet's six words. -/
def OutletSettings.words (c : OutletSettings) : List Half :=
  [numWord c.target, numWord c.floor, numWord c.tolerance, numWord c.spacing, numWord c.clip.val,
    boolWord c.autostart]

/-- One panel's four words. -/
def PanelSettings.words (c : PanelSettings) : List Half :=
  [numWord c.span, c.lanes.setWidth 16, c.buttons.setWidth 16, numWord c.preroll]

/-- The 48 words of the settings, in the order of R185. -/
def Settings.words (c : Settings) : List Half :=
  [numWord c.rate, numWord c.retention, BitVec.ofInt 16 c.threshold, c.pauseCue, boolWord c.cueEnable] ++
    c.outlets.toList.flatMap OutletSettings.words ++ c.panels.toList.flatMap PanelSettings.words ++
    [numWord c.holdLimit, c.floorKey, boolWord c.ingestAuto]

/-- The sum of words modulo 65,536. -/
def wordSum (ws : List Half) : Half := ws.foldr (· + ·) 0

/-- The check word that makes the sum 0. -/
def checkWord (ws : List Half) : Half := - wordSum ws

/-- A snapshot of the settings: 49 words, the check word last. -/
def Settings.profile (c : Settings) : List Half := c.words ++ [checkWord c.words]

/-- A value that is kept when it holds a condition. -/
def keepIf {α : Type} (ok : Bool) (x : α) : Option α := if ok then some x else none

/-- A word as a number from `lo` to `hi`. -/
def wordNum (lo hi : Nat) (w : Half) : Option Nat := keepIf (decide (lo ≤ w.toNat) && decide (w.toNat ≤ hi)) w.toNat

/-- A word as yes or no. -/
def wordBool (w : Half) : Option Bool := if w = 0 then some false else if w = 1 then some true else none

/-- A word as a frame rate. -/
def wordRate (w : Half) : Option Nat := keepIf (w.toNat == 24 || w.toNat == 25 || w.toNat == 30) w.toNat

/-- A word as a pause threshold. -/
def wordThreshold (w : Half) : Option Int := keepIf (decide (-60 ≤ w.toInt) && decide (w.toInt ≤ -20)) w.toInt

/-- A word as MUTE lanes, its unused bits ignored (R191, log entry 34). -/
def wordLanes (w : Half) : Option LaneMask :=
  keepIf (lanesOf w != 0 && !member (lanesOf w) laneP.val) (lanesOf w)

/-- A word as the number of a clip. -/
def wordClip (w : Half) : Option ClipId := if h : w.toNat < 8 then some ⟨w.toNat, h⟩ else none

/-- One outlet's settings from its six words; none when a value is out of range or the floor above the target. -/
def OutletSettings.read (target floor tolerance spacing clip auto : Half) : Option OutletSettings :=
  match wordNum 0 1920 target, wordNum 0 1920 floor, wordNum 1 8 tolerance, wordNum 4 64 spacing, wordClip clip,
      wordBool auto with
  | some t, some f, some tol, some sp, some c, some a =>
    keepIf (decide (f ≤ t)) { target := t, floor := f, tolerance := tol, spacing := sp, clip := c, autostart := a }
  | _, _, _, _, _, _ => none

/-- One panel's settings from its four words. -/
def PanelSettings.read (span lanes buttons preroll : Half) : Option PanelSettings :=
  match wordNum 1 1920 span, wordLanes lanes, wordNum 0 30 preroll with
  | some s, some l, some p => some { span := s, lanes := l, buttons := buttons.setWidth 4, preroll := p }
  | _, _, _ => none

/-- The outlets' settings, six words each. -/
def readOutlets : Nat → List Half → Option (List OutletSettings × List Half)
  | 0, ws => some ([], ws)
  | k + 1, a :: b :: c :: d :: e :: f :: rest =>
    (match OutletSettings.read a b c d e f, readOutlets k rest with
     | some x, some (xs, left) => some (x :: xs, left)
     | _, _ => none)
  | _ + 1, _ => none

/-- The panels' settings, four words each. -/
def readPanels : Nat → List Half → Option (List PanelSettings × List Half)
  | 0, ws => some ([], ws)
  | k + 1, a :: b :: c :: d :: rest =>
    (match PanelSettings.read a b c d, readPanels k rest with
     | some x, some (xs, left) => some (x :: xs, left)
     | _, _ => none)
  | _ + 1, _ => none

/-- Four items of a list as a vector. -/
def vec4 {α : Type} (xs : List α) : Option (Vector α 4) :=
  match xs with
  | [a, b, c, d] => some #v[a, b, c, d]
  | _ => none

/-- The outlets' and panels' settings, with the words that follow them. -/
def readUnits (ws : List Half) : Option (Vector OutletSettings 4 × Vector PanelSettings 4 × List Half) :=
  match readOutlets 4 ws with
  | none => none
  | some (os, rest) =>
    match readPanels 4 rest with
    | none => none
    | some (ps, left) =>
      match vec4 os, vec4 ps with
      | some vo, some vp => some (vo, vp, left)
      | _, _ => none

/-- The settings that the words of a profile hold, check word included; none when a value is out of range. -/
def Settings.read (ws : List Half) : Option Settings :=
  match ws with
  | a :: b :: c :: d :: e :: rest =>
    (match wordRate a, wordNum 0 1920 b, wordThreshold c, wordBool e, readUnits rest with
     | some rate, some ret, some thr, some en, some (os, ps, [hl, key, auto, _]) =>
       (match wordNum 25 600 hl, wordBool auto with
        | some limit, some ia =>
          some { rate := rate, retention := ret, threshold := thr, pauseCue := d, cueEnable := en, outlets := os
                 panels := ps, holdLimit := limit, floorKey := key, ingestAuto := ia }
        | _, _ => none)
     | _, _, _, _, _ => none)
  | _ => none

/-! ## Loading -/

/-- How a load ends (R186): a flash that cannot be read, then the word sum, then the values. -/
def loadOf (readable : Bool) (flash : Flash) : LoadResult × Option Settings :=
  if readable then
    (match flash with
     | .unsound => (.check, none)
     | .words ws =>
       if wordSum ws = 0 then
         (match Settings.read ws with
          | some c => (.good, some c)
          | none => (.range, none))
       else (.check, none))
  else (.read, none)

/-- Autostart of ingest (R187). -/
def State.autoIngest (s : State) : State :=
  if s.settings.current.ingestAuto && s.mayStart then s.startIngest else s

/-- Autostart of an outlet (R187). -/
def State.autoOutlet (s : State) (o : OutletId) : State :=
  if (s.outletCfg o).autostart then s.startOutlet o .hold 0 else s

/-- Ingest, then outlets 0 to 3, are started as the current settings mark them (R187). -/
def State.autostart (s : State) : State := four.foldl State.autoOutlet s.autoIngest

/-- The Settings Store is Ready, with the profile's values if it was sound (R186). -/
def State.takeLoad (s : State) (result : LoadResult) (loaded : Option Settings) : State :=
  { s with settings :=
      { s.settings with current := loaded.getD s.settings.current, ready := true, lastLoad := some result } }

/-- Notice SettingsDefaulted of a load that was not Good (R186). -/
def State.reportLoad (s : State) (result : LoadResult) : State :=
  if result = .good then s else s.post (.settingsDefaulted result)

/-- The load ends (R186, R187); while Ready none is under way. -/
def State.loadEnd (s : State) (readable : Bool) : State :=
  if s.settings.ready then s
  else
    let x := loadOf readable s.settings.flash
    (((s.takeLoad x.1 x.2).reportLoad x.1).limitChanged).autostart

/-- LOAD_END. -/
def execLoadEnd (readable : Bool) (s : State) : Host.Outcome State Fault Refusal :=
  event (fun s => s.loadEnd readable) s

/-! ## Saving -/

/-- The write of the profile ends (R188); while the save state is Idle none is under way. -/
def State.saveEnd (s : State) (success : Bool) : State :=
  match s.settings.save with
  | .idle => s
  | .writing ws =>
    if success then
      ({ s with settings := { s.settings with save := .idle, flash := .words ws } }).post
        (.saveDone (ws.getLast?.getD 0))
    else ({ s with settings := { s.settings with save := .idle, flash := .unsound } }).post .saveFailed

/-- SAVE_WRITE_END. -/
def execSaveWriteEnd (success : Bool) (s : State) : Host.Outcome State Fault Refusal :=
  event (fun s => s.saveEnd success) s

/-- The autostart marks of the outlets from a set. -/
def Settings.markOutlets (c : Settings) (m : OutletSet) : Settings :=
  { c with outlets := Vector.ofFn (fun o => { c.outlets[o] with autostart := member m o.val }) }

/-- The four values that SETTINGS SAVE carries are taken, and the Cut Table tests its open records (R188, R111). -/
def State.takeSaveFields (s : State) (limit : Nat) (key : Half) (auto : Bool) (m : OutletSet) : State :=
  (s.modSettings (fun c =>
    { c.markOutlets m with holdLimit := limit, floorKey := key, ingestAuto := auto })).limitChanged

/-- The snapshot is taken and its write begins; the reply carries its check word (R188). -/
def State.beginSave (s : State) : State × Answer :=
  done { s with settings := { s.settings with save := .writing s.settings.current.profile } }
    (u16 (checkWord s.settings.current.words).toNat)

/-- SETTINGS SAVE at its owner (R188, log entry 20). -/
def State.onSettingsSave (s : State) (fields : Option SaveFields) : State × Answer :=
  match s.settings.save, fields with
  | .writing _, _ => refuse s .busy
  | .idle, none => s.beginSave
  | .idle, some f =>
    match yesNo f.ingestAuto with
    | none => refuse s .badValue
    | some auto =>
      if f.holdLimit.toNat < 25 ∨ 600 < f.holdLimit.toNat then refuse s .badValue
      else (s.takeSaveFields f.holdLimit.toNat f.floorKey auto (outletsOf f.outletAuto)).beginSave

/-- The factory values take the place of the current settings, and the blocks act on the changes (R189).  The records that
this closes or retires queue their own notices (R111, R117, log entry 40).  An outlet whose clip goes back to 0 so keeps
its clip position as it stands, though OUTLET CLIP would make it 0 (R61, log entry 45). -/
def State.defaultSettings (s : State) : State :=
  (((s.modSettings (fun _ => Settings.factory)).modIngest (fun u => { u with tracker := none })).release).limitChanged

/-- SETTINGS DEFAULT at its owner (R189). -/
def State.onSettingsDefault (s : State) : State × Answer :=
  if s.quiet then done s.defaultSettings [] else refuse s .stateWrong

end Sys2Proof.Machine
end

