-- ==== Sys2Proof/Machine/LinkOps.lean ====
section
/-! DEFINITION. The Control Link: the requests of the link itself, of the Cut Table and of the Filler Bank at their
owners, the taking of a request, the receiver, the transmitter, and the two resets (09_the_control_link.md, R190). -/

namespace Sys2Proof.Machine

/-! ## Requests of the link -/

/-- STATUS: the reply carries the lost-notice flag as it stood, and the flag is cleared (R179, R180). -/
def State.onStatus (s : State) : State × Answer :=
  done (s.modLink (fun l => { l with lostNotice := false })) s.statusBytes

/-- RESET: pending reset becomes yes (R182). -/
def State.onReset (s : State) : State × Answer := done (s.modLink (fun l => { l with pendingReset := true })) []

/-! ## Requests of the Cut Table -/

/-- The Cut Table's answer as an owner's answer. -/
def answerCut (x : State × CutAnswer) : State × Answer := (x.1, x.2.toAnswer)

/-- CUT at its owner (R103, log entry 20). -/
def State.onCut (s : State) (kind : Byte) (lanes : Half) (first : BitVec 32) (present : Byte) (last : BitVec 32) :
    State × Answer :=
  match kindOf kind, yesNo present with
  | some k, some p => answerCut (s.hostCut k (lanesOf lanes) first.toNat (if p then some last.toNat else none))
  | _, _ => refuse s .badValue

/-- CUT CLOSE at its owner (R110). -/
def State.onCutClose (s : State) (id : Byte) : State × Answer := answerCut (s.closeCut id.toNat)

/-- CUT READ at its owner (R118). -/
def State.onCutRead (s : State) (id : Byte) : State × Answer :=
  match s.cutById id.toNat, s.cutPosition id.toNat with
  | some r, some i => done s (r.bytes i)
  | _, _ => refuse s .badValue

/-- CUT LIST at its owner (R119). -/
def State.onCutList (s : State) (position : Byte) : State × Answer :=
  if 31 < position.toNat then refuse s .badValue else done s (s.cutListBytes position.toNat)

/-! ## Requests of the Filler Bank -/

/-- CLIP GRAB at its owner (R160, R167); the report of the reply is taken after the whole event, frames without pages
copied in it (log entry 39). -/
def State.onClipGrab (s : State) (clip : Byte) (first : BitVec 32) (count : Byte) : State × Answer :=
  match index 8 clip with
  | none => refuse s .badValue
  | some c =>
    match s.grabRefusal c first.toNat count.toNat with
    | some code => (s, { code := code, fields := s.clipReport c })
    | none =>
      let t := s.startGrab c first.toNat count.toNat
      done t (t.clipReport c)

/-- CLIP CLEAR at its owner (R166, R167). -/
def State.onClipClear (s : State) (clip : Byte) : State × Answer :=
  match index 8 clip with
  | none => refuse s .badValue
  | some c =>
    let x := s.clearClip c
    (x.1, { code := x.2, fields := x.1.clipReport c })

/-- CLIP READ at its owner (R167). -/
def State.onClipRead (s : State) (clip position : Byte) : State × Answer :=
  match index 8 clip with
  | none => refuse s .badValue
  | some c =>
    if 119 < position.toNat then refuse s .badValue
    else
      done s (s.clipReport c ++
        optional 9 (((s.clip c).reported position.toNat).map (FillerFrame.bytes position.toNat)))

/-! ## Taking a request -/

/-- The owner of a request takes it and answers (R174, step 6). -/
def State.owner (s : State) (r : Request) : State × Answer :=
  match r with
  | .status => s.onStatus
  | .reset => s.onReset
  | .outletStart o m k => s.onOutletStart o m k
  | .outletStop o => s.onOutletStop o
  | .outletTarget o t => s.onOutletTarget o t
  | .outletFloor o f => s.onOutletFloor o f
  | .floorUnlock o k => s.onFloorUnlock o k
  | .outletShape o sp tol => s.onOutletShape o sp tol
  | .outletClip o c => s.onOutletClip o c
  | .outletRead o c => s.onOutletRead o c
  | .ingestStart => s.onIngestStart
  | .ingestStop => s.onIngestStop
  | .ingestRate r => s.onIngestRate r
  | .ingestPause f => s.onIngestPause f
  | .retainSet d => s.onRetainSet d
  | .frameRead n => s.onFrameRead n
  | .cut k l f p e => s.onCut k l f p e
  | .cutClose i => s.onCutClose i
  | .cutRead i => s.onCutRead i
  | .cutList p => s.onCutList p
  | .watchSet k w => s.onWatchSet k w
  | .watchArm k => s.onWatchArm k
  | .watchDisarm k => s.onWatchDisarm k
  | .watchRead k => s.onWatchRead k
  | .clipGrab c f n => s.onClipGrab c f n
  | .clipClear c => s.onClipClear c
  | .clipRead c p => s.onClipRead c p
  | .panelSet p sp l b pre => s.onPanelSet p sp l b pre
  | .panelRestore p => s.onPanelRestore p
  | .panelRead p => s.onPanelRead p
  | .settingsSave f => s.onSettingsSave f
  | .settingsDefault => s.onSettingsDefault

/-- The body of a reply: the type marked as a reply, the tag, the result code, and the fields (R175, R192, log entry
19). -/
def replyBody (type tag : Byte) (a : Answer) : List Byte := [type + 0x80, tag, a.code.toByte] ++ a.fields

/-- The answer fills the reply slot (R174). -/
def State.fillSlot (s : State) (body : List Byte) : State := s.modLink (fun l => { l with reply := some body })

/-- A request refused at the link, steps 1 to 5 of R174, carries no fields (R175). -/
def State.refuseAtLink (s : State) (type tag : Byte) (c : ResultCode) : State :=
  s.fillSlot (replyBody type tag { code := c, fields := [] })

/-- A request handed to its owner, and its reply (R174, step 6). -/
def State.handToOwner (s : State) (type tag : Byte) (r : Request) : State :=
  let x := s.owner r
  x.1.fillSlot (replyBody type tag x.2)

/-- The first two checks of R174: the type names a request, and the part is Ready or the request is STATUS. -/
def State.typeRefusal (s : State) (type : Byte) : Option ResultCode :=
  if bodyLengths type = [] then some .unknown
  else if s.settings.ready = false ∧ type ≠ 0x01 then some .notReady
  else none

/-- A request that carries a tag is taken: the checks of R174 in order. -/
def State.takeTagged (s : State) (type tag : Byte) (fields : List Byte) : State :=
  match s.typeRefusal type with
  | some c => s.refuseAtLink type tag c
  | none =>
    if tag = 0 then s.refuseAtLink type tag .badValue
    else
      match Request.decode type fields with
      | none => s.refuseAtLink type tag .badLength
      | some r => s.handToOwner type tag r

/-- A request body is taken; one of a single byte carries no tag and is answered with tag 0 (R174, R175). -/
def State.takeRequest (s : State) (body : List Byte) : State :=
  match body with
  | [] => s
  | [type] => s.refuseAtLink type 0 ((s.typeRefusal type).getD .badLength)
  | type :: tag :: fields => s.takeTagged type tag fields

/-- The oldest request in the buffer is taken when the reply slot is empty and no reset is pending (R174, R182). -/
def State.serve (s : State) : State :=
  match s.link.reply, s.link.pendingReset, s.link.buffer with
  | none, false, body :: rest => (s.modLink (fun l => { l with buffer := rest })).takeRequest body
  | _, _, _ => s

/-- A good packet from the host (R173). -/
def State.acceptPacket (s : State) (body : List Byte) : State :=
  if s.link.buffer.length < Config.bufferPackets then
    (s.modLink (fun l => { l with buffer := l.buffer ++ [body] })).serve
  else s.modLink (fun l => { l with overrun := l.overrun + 1 })

/-- A request of the host arrives as a good packet (R173, log entry 1). -/
def State.request (s : State) (tag : Byte) (r : Request) : State := s.acceptPacket (r.body tag)

/-! ## The receiver -/

/-- A packet is discarded: the discarded counter rises by 1 (R171, R172). -/
def State.discardFromHost (s : State) : State := s.modLink (fun l => { l with discarded := l.discarded + 1 })

/-- The end of a packet from the host, if it has ended (R171, R173). -/
def State.hostEnd (s : State) (e : Option PacketEnd) : State :=
  match e with
  | none => s
  | some (.good body) => s.acceptPacket body
  | some .badLength => s.discardFromHost
  | some .badCheck => s.discardFromHost

/-- The receiver of the control link takes a value. -/
def State.setHostReceiver (s : State) (r : Receiver) : State := s.modLink (fun l => { l with receiver := r })

/-- A byte arrives on the control link (R171). -/
def State.hostByte (s : State) (b : Byte) : State :=
  let x := receive 250 s.link.receiver b
  (s.setHostReceiver x.1).hostEnd x.2

/-- CONTROL_BYTE_RECEIVED. -/
def execControlByteReceived (b : Byte) (s : State) : Host.Outcome State Fault Refusal := event (fun s => s.hostByte b) s

/-- The gap inside a packet expires (R172); between packets none is timed. -/
def State.hostGap (s : State) : State :=
  match s.link.receiver with
  | .idle => s
  | .inPacket _ => (s.setHostReceiver .idle).discardFromHost

/-- CONTROL_GAP_EXPIRY. -/
def execControlGapExpiry (s : State) : Host.Outcome State Fault Refusal := event State.hostGap s

/-! ## The resets -/

/-- The flash after a reset: a write that was under way leaves it unsound (R190). -/
def SettingsStore.flashAfterReset (x : SettingsStore) : Flash :=
  match x.save with
  | .idle => x.flash
  | .writing _ => .unsound

/-- The last grab after a reset (R157, R169). -/
def FillerBank.grabAfterReset (b : FillerBank) : LastGrab :=
  match b.engine with
  | .idle => .none
  | .copying c _ _ => .aborted c .reset b.clips[c].copied

/-- A reset (R190). -/
def State.resetTo (s : State) (cause : ResetCause) (ports : PortReport) : State :=
  State.afterReset cause ports s.settings.flashAfterReset s.bank.grabAfterReset s.pending

/-- What the ports report at a soft reset: their conditions as they stand, and the straps as given (log entry 7). -/
def State.portsNow (s : State) (straps : Baud) : PortReport :=
  { source := s.ingest.source, reference := s.ingest.reference, sinks := s.outlets.map Outlet.sink, straps := straps }

/-- POWER_ON_RESET (R190). -/
def execPowerOnReset (ports : PortReport) (s : State) : Host.Outcome State Fault Refusal :=
  .next (s.resetTo .powerOn ports)

/-! ## The transmitter -/

/-- The sending of the reply ends: it leaves the slot, and the link takes the next request (R174, R177). -/
def State.replySent (s : State) : State :=
  (s.modLink (fun l => { l with reply := none, transmitter := .idle })).serve

/-- The sending of a notice ends (R177). -/
def State.noticeSent (s : State) : State := s.modLink (fun l => { l with transmitter := .idle })

/-- The transmitter finishes a packet: it chooses the next, or the soft reset takes effect at the end of the RESET
reply (R177, R182).  At the end of a reply the next request is taken before that choice, so a notice it queues finds the
Notice Queue as it stood (log entry 49). -/
def State.transmitEnd (s : State) (straps : Baud) : State :=
  match s.link.transmitter with
  | .idle => s
  | .sendingReply => if s.link.pendingReset then s.resetTo .soft (s.portsNow straps) else s.replySent.transmit
  | .sendingNotice _ => s.noticeSent.transmit

/-- TRANSMIT_END. -/
def execTransmitEnd (straps : Baud) (s : State) : Host.Outcome State Fault Refusal :=
  .next (s.transmit.transmitEnd straps)

end Sys2Proof.Machine
end

