-- ==== Sys2Proof/Machine/Requests.lean ====
section
/-! DEFINITION. The meanings of the request rows: each is the arrival of its request as a good packet (R173, log entry
1), which the link checks, hands to the owner and answers (R174). -/

namespace Sys2Proof.Machine

/-- STATUS (R180). -/
def execStatus (tag : Byte) (s : State) : Host.Outcome State Fault Refusal :=
  event (fun s => s.request tag .status) s

/-- RESET (R182). -/
def execReset (tag : Byte) (s : State) : Host.Outcome State Fault Refusal :=
  event (fun s => s.request tag .reset) s

/-- OUTLET_START (R62). -/
def execOutletStart (tag : Byte) (outlet mode : Byte) (k : Half) (s : State) : Host.Outcome State Fault Refusal :=
  event (fun s => s.request tag (.outletStart outlet mode k)) s

/-- OUTLET_STOP (R65). -/
def execOutletStop (tag : Byte) (outlet : Byte) (s : State) : Host.Outcome State Fault Refusal :=
  event (fun s => s.request tag (.outletStop outlet)) s

/-- OUTLET_TARGET (R67). -/
def execOutletTarget (tag : Byte) (outlet : Byte) (target : Half) (s : State) : Host.Outcome State Fault Refusal :=
  event (fun s => s.request tag (.outletTarget outlet target)) s

/-- OUTLET_FLOOR (R69). -/
def execOutletFloor (tag : Byte) (outlet : Byte) (floor : Half) (s : State) : Host.Outcome State Fault Refusal :=
  event (fun s => s.request tag (.outletFloor outlet floor)) s

/-- FLOOR_UNLOCK (R70). -/
def execFloorUnlock (tag : Byte) (outlet : Byte) (key : Half) (s : State) : Host.Outcome State Fault Refusal :=
  event (fun s => s.request tag (.floorUnlock outlet key)) s

/-- OUTLET_SHAPE (R91). -/
def execOutletShape (tag : Byte) (outlet spacing tolerance : Byte) (s : State) : Host.Outcome State Fault Refusal :=
  event (fun s => s.request tag (.outletShape outlet spacing tolerance)) s

/-- OUTLET_CLIP (R61). -/
def execOutletClip (tag : Byte) (outlet clip : Byte) (s : State) : Host.Outcome State Fault Refusal :=
  event (fun s => s.request tag (.outletClip outlet clip)) s

/-- OUTLET_READ (R75). -/
def execOutletRead (tag : Byte) (outlet clear : Byte) (s : State) : Host.Outcome State Fault Refusal :=
  event (fun s => s.request tag (.outletRead outlet clear)) s

/-- INGEST_START (R29). -/
def execIngestStart (tag : Byte) (s : State) : Host.Outcome State Fault Refusal :=
  event (fun s => s.request tag .ingestStart) s

/-- INGEST_STOP (R30). -/
def execIngestStop (tag : Byte) (s : State) : Host.Outcome State Fault Refusal :=
  event (fun s => s.request tag .ingestStop) s

/-- INGEST_RATE (R44). -/
def execIngestRate (tag : Byte) (rate : Byte) (s : State) : Host.Outcome State Fault Refusal :=
  event (fun s => s.request tag (.ingestRate rate)) s

/-- INGEST_PAUSE (R39). -/
def execIngestPause (tag : Byte) (fields : Option PauseFields) (s : State) : Host.Outcome State Fault Refusal :=
  event (fun s => s.request tag (.ingestPause fields)) s

/-- RETAIN_SET (R15). -/
def execRetainSet (tag : Byte) (depth : Half) (s : State) : Host.Outcome State Fault Refusal :=
  event (fun s => s.request tag (.retainSet depth)) s

/-- FRAME_READ (R23). -/
def execFrameRead (tag : Byte) (sequence : BitVec 32) (s : State) : Host.Outcome State Fault Refusal :=
  event (fun s => s.request tag (.frameRead sequence)) s

/-- CUT (R103). -/
def execCut (tag : Byte) (kind : Byte) (lanes : Half) (first : BitVec 32) (last : Option (BitVec 32)) (s : State) :
    Host.Outcome State Fault Refusal :=
  event (fun s => s.request tag (.cut kind lanes first (if last.isSome then 1 else 0) (last.getD 0))) s

/-- CUT_CLOSE (R110). -/
def execCutClose (tag : Byte) (id : Byte) (s : State) : Host.Outcome State Fault Refusal :=
  event (fun s => s.request tag (.cutClose id)) s

/-- CUT_READ (R118). -/
def execCutRead (tag : Byte) (id : Byte) (s : State) : Host.Outcome State Fault Refusal :=
  event (fun s => s.request tag (.cutRead id)) s

/-- CUT_LIST (R119). -/
def execCutList (tag : Byte) (position : Byte) (s : State) : Host.Outcome State Fault Refusal :=
  event (fun s => s.request tag (.cutList position)) s

/-- WATCH_SET (R152). -/
def execWatchSet (tag : Byte) (slot : Byte) (fields : WatchFields) (s : State) : Host.Outcome State Fault Refusal :=
  event (fun s => s.request tag (.watchSet slot fields)) s

/-- WATCH_ARM (R153). -/
def execWatchArm (tag : Byte) (slot : Byte) (s : State) : Host.Outcome State Fault Refusal :=
  event (fun s => s.request tag (.watchArm slot)) s

/-- WATCH_DISARM (R154). -/
def execWatchDisarm (tag : Byte) (slot : Byte) (s : State) : Host.Outcome State Fault Refusal :=
  event (fun s => s.request tag (.watchDisarm slot)) s

/-- WATCH_READ (R155). -/
def execWatchRead (tag : Byte) (slot : Byte) (s : State) : Host.Outcome State Fault Refusal :=
  event (fun s => s.request tag (.watchRead slot)) s

/-- CLIP_GRAB (R160). -/
def execClipGrab (tag : Byte) (clip : Byte) (first : BitVec 32) (count : Byte) (s : State) :
    Host.Outcome State Fault Refusal :=
  event (fun s => s.request tag (.clipGrab clip first count)) s

/-- CLIP_CLEAR (R166). -/
def execClipClear (tag : Byte) (clip : Byte) (s : State) : Host.Outcome State Fault Refusal :=
  event (fun s => s.request tag (.clipClear clip)) s

/-- CLIP_READ (R167). -/
def execClipRead (tag : Byte) (clip position : Byte) (s : State) : Host.Outcome State Fault Refusal :=
  event (fun s => s.request tag (.clipRead clip position)) s

/-- PANEL_SET (R135). -/
def execPanelSet (tag : Byte) (panel : Byte) (span lanes : Half) (buttons preroll : Byte) (s : State) :
    Host.Outcome State Fault Refusal :=
  event (fun s => s.request tag (.panelSet panel span lanes buttons preroll)) s

/-- PANEL_RESTORE (R134). -/
def execPanelRestore (tag : Byte) (panel : Byte) (s : State) : Host.Outcome State Fault Refusal :=
  event (fun s => s.request tag (.panelRestore panel)) s

/-- PANEL_READ (R136). -/
def execPanelRead (tag : Byte) (panel : Byte) (s : State) : Host.Outcome State Fault Refusal :=
  event (fun s => s.request tag (.panelRead panel)) s

/-- SETTINGS_SAVE (R188). -/
def execSettingsSave (tag : Byte) (fields : Option SaveFields) (s : State) : Host.Outcome State Fault Refusal :=
  event (fun s => s.request tag (.settingsSave fields)) s

/-- SETTINGS_DEFAULT (R189). -/
def execSettingsDefault (tag : Byte) (s : State) : Host.Outcome State Fault Refusal :=
  event (fun s => s.request tag .settingsDefault) s

end Sys2Proof.Machine
end

