-- ==== Sys2Proof/Machine/Dispatch.lean ====
section
/-! DEFINITION. One arm for each command, each a call of its meaning. -/

namespace Sys2Proof.Machine

/-- The effect of a command on everything but the queue. -/
def exec (i : Instr) (s : State) : Host.Outcome State Fault Refusal :=
  match i with
  | .powerOnReset ports => Sys2Proof.Machine.execPowerOnReset ports s
  | .loadEnd readable => Sys2Proof.Machine.execLoadEnd readable s
  | .saveWriteEnd success => Sys2Proof.Machine.execSaveWriteEnd success s
  | .controlByteReceived b => Sys2Proof.Machine.execControlByteReceived b s
  | .controlGapExpiry => Sys2Proof.Machine.execControlGapExpiry s
  | .transmitEnd straps => Sys2Proof.Machine.execTransmitEnd straps s
  | .status tag => Sys2Proof.Machine.execStatus tag s
  | .reset tag => Sys2Proof.Machine.execReset tag s
  | .outletStart tag outlet mode k => Sys2Proof.Machine.execOutletStart tag outlet mode k s
  | .outletStop tag outlet => Sys2Proof.Machine.execOutletStop tag outlet s
  | .outletTarget tag outlet target => Sys2Proof.Machine.execOutletTarget tag outlet target s
  | .outletFloor tag outlet floor => Sys2Proof.Machine.execOutletFloor tag outlet floor s
  | .floorUnlock tag outlet key => Sys2Proof.Machine.execFloorUnlock tag outlet key s
  | .outletShape tag outlet spacing tolerance => Sys2Proof.Machine.execOutletShape tag outlet spacing tolerance s
  | .outletClip tag outlet clip => Sys2Proof.Machine.execOutletClip tag outlet clip s
  | .outletRead tag outlet clear => Sys2Proof.Machine.execOutletRead tag outlet clear s
  | .ingestStart tag => Sys2Proof.Machine.execIngestStart tag s
  | .ingestStop tag => Sys2Proof.Machine.execIngestStop tag s
  | .ingestRate tag rate => Sys2Proof.Machine.execIngestRate tag rate s
  | .ingestPause tag fields => Sys2Proof.Machine.execIngestPause tag fields s
  | .retainSet tag depth => Sys2Proof.Machine.execRetainSet tag depth s
  | .frameRead tag sequence => Sys2Proof.Machine.execFrameRead tag sequence s
  | .cut tag kind lanes first last => Sys2Proof.Machine.execCut tag kind lanes first last s
  | .cutClose tag id => Sys2Proof.Machine.execCutClose tag id s
  | .cutRead tag id => Sys2Proof.Machine.execCutRead tag id s
  | .cutList tag position => Sys2Proof.Machine.execCutList tag position s
  | .watchSet tag slot fields => Sys2Proof.Machine.execWatchSet tag slot fields s
  | .watchArm tag slot => Sys2Proof.Machine.execWatchArm tag slot s
  | .watchDisarm tag slot => Sys2Proof.Machine.execWatchDisarm tag slot s
  | .watchRead tag slot => Sys2Proof.Machine.execWatchRead tag slot s
  | .clipGrab tag clip first count => Sys2Proof.Machine.execClipGrab tag clip first count s
  | .clipClear tag clip => Sys2Proof.Machine.execClipClear tag clip s
  | .clipRead tag clip position => Sys2Proof.Machine.execClipRead tag clip position s
  | .panelSet tag panel span lanes buttons preroll => Sys2Proof.Machine.execPanelSet tag panel span lanes buttons preroll s
  | .panelRestore tag panel => Sys2Proof.Machine.execPanelRestore tag panel s
  | .panelRead tag panel => Sys2Proof.Machine.execPanelRead tag panel s
  | .settingsSave tag fields => Sys2Proof.Machine.execSettingsSave tag fields s
  | .settingsDefault tag => Sys2Proof.Machine.execSettingsDefault tag s
  | .panelByteReceived p b => Sys2Proof.Machine.execPanelByteReceived p b s
  | .panelGapExpiry p => Sys2Proof.Machine.execPanelGapExpiry p s
  | .tallySent p => Sys2Proof.Machine.execTallySent p s
  | .sourceLost => Sys2Proof.Machine.execSourceLost s
  | .sourceReturned => Sys2Proof.Machine.execSourceReturned s
  | .referenceLost => Sys2Proof.Machine.execReferenceLost s
  | .referenceReturned => Sys2Proof.Machine.execReferenceReturned s
  | .referenceFrameTime => Sys2Proof.Machine.execReferenceFrameTime s
  | .frameStart timecode => Sys2Proof.Machine.execFrameStart timecode s
  | .sectionData piece => Sys2Proof.Machine.execSectionData piece s
  | .frameEnd => Sys2Proof.Machine.execFrameEnd s
  | .storeReadError reader => Sys2Proof.Machine.execStoreReadError reader s
  | .fillerReadError o => Sys2Proof.Machine.execFillerReadError o s
  | .periodStart o => Sys2Proof.Machine.execPeriodStart o s
  | .quarterBoundary o quarter => Sys2Proof.Machine.execQuarterBoundary o quarter s
  | .sinkLost o => Sys2Proof.Machine.execSinkLost o s
  | .sinkReturned o => Sys2Proof.Machine.execSinkReturned o s
  | .adjustmentFallsDue o => Sys2Proof.Machine.execAdjustmentFallsDue o s
  | .holdLimitClose => Sys2Proof.Machine.execHoldLimitClose s
  | .watchCut => Sys2Proof.Machine.execWatchCut s
  | .retarget o => Sys2Proof.Machine.execRetarget o s
  | .copyPageDone => Sys2Proof.Machine.execCopyPageDone s

end Sys2Proof.Machine
end

