-- ==== Sys2Proof/Machine/Emission.lean ====
section
/-! DEFINITION. What an output port carries in the quarter now leaving, computed from the outlet's record, the store and
the clips (R6, R21, R22, R58 to R60, R85). Nothing in the part reads it: it is the part's output. -/

namespace Sys2Proof.Machine

/-- What a port carries: the period's picture (none is black), each audio track's run of the quarter (none is silence),
and the quarter's caption run. -/
structure OnAir where
  picture : Option (List Byte)
  audio : Vector (Option (List Byte)) 8
  captions : List Byte
  deriving DecidableEq, Repr

/-- Black picture, silent audio and no captions. -/
def OnAir.black : OnAir := { picture := none, audio := Vector.replicate 8 none, captions := [] }

/-- The first item of quarter `q` among `n` (R58). -/
def runStart (q n : Nat) : Nat := q * n / 4

/-- The items of quarter `q` of a list (R58). -/
def quarterRun {α : Type} (q : Nat) (xs : List α) : List α :=
  (xs.drop (runStart q xs.length)).take (runStart (q + 1) xs.length - runStart q xs.length)

/-- The samples of a lane that leave in quarter `q`, as bytes (R58, log entry 9). -/
def laneRun (q : Nat) (l : Lane) (pages : List Page) : Option (List Byte) :=
  let data := laneData l pages
  if data = [] then none else some (quarterRun q (samples Config.sampleWidth data.length data)).flatten

/-- The picture of a chain: none, and so black, when it holds no data of lane P (R6). -/
def pictureOf (pages : List Page) : Option (List Byte) :=
  if laneData laneP pages = [] then none else some (laneData laneP pages)

/-- A chain on air in quarter `q` under mute lanes; lost page data leaves as black and silence (R21, R58, R59). -/
def chainOnAir (q : Nat) (mute : LaneMask) (lost : Bool) (pages : List Page) : OnAir :=
  if lost then OnAir.black
  else
    { picture := pictureOf pages
      audio := Vector.ofFn (fun t =>
        if member mute (audioLane t).val then none else laneRun q (audioLane t) pages)
      captions := [] }

/-- A caption run under mute lanes (R58, R59). -/
def captionRun (q : Nat) (mute : LaneMask) (captions : List Byte) : List Byte :=
  if member mute laneC.val then [] else quarterRun q captions

/-- What outlet `o`'s port carries in the quarter now leaving. -/
def State.onAir (s : State) (o : OutletId) : OnAir :=
  let u := s.outlet o
  let q := u.quarter.toNat
  match u.inFlight with
  | .none => OnAir.black
  | .program n =>
    (match s.heldFrame n with
     | some f =>
       { chainOnAir q u.muteLanes u.dataLost f.pages with captions := captionRun q u.muteLanes f.captions }
     | none => OnAir.black)
  | .again n =>
    (match s.heldFrame n with
     | some f => chainOnAir q u.muteLanes u.dataLost f.pages
     | none => OnAir.black)
  | .filler c p =>
    (match (s.clip c).frames[p]? with
     | some f => chainOnAir q 0 u.dataLost f.pages
     | none => OnAir.black)
  | .black => OnAir.black

end Sys2Proof.Machine
end

