-- ==== Sys2Proof/Safety.lean ====
section
/-! DEFINITION. The laws that the manual says the part keeps, as decidable predicates on a state, and the words in
which the statements say what a command changes. -/

namespace Sys2Proof.Machine

/-- The queues keep within their sizes: Notice Queue, request buffer, action queue and Cut Table (R170, R147, R95). -/
abbrev State.QueueLaw (s : State) : Prop :=
  s.link.notices.length ≤ Config.noticeEntries ∧ s.link.buffer.length ≤ Config.bufferPackets ∧
    s.watch.queue.length ≤ Config.actionEntries ∧ s.cuts.records.length ≤ Config.cutRecords

/-- The port frame is Open with record. -/
def PortFrame.hasRecord : PortFrame → Bool
  | .closed => false
  | .withRecord _ => true
  | .withoutRecord => false

/-- The Held frames carry one unbroken run of numbers ending at I − 1, at most 2,048 records are in use, the Filling
frame carries the number I and there is one exactly when the port frame is Open with record, the port frame is Closed
unless ingest is Running, and numbering ends with ingest Stopped (R4, R26, R28, R41). -/
abbrev State.RingLaw (s : State) : Prop :=
  s.store.held.length ≤ s.ingest.mark ∧
    s.store.held.map Frame.seq = List.range' (s.ingest.mark - s.store.held.length) s.store.held.length ∧
    s.store.inUse ≤ Config.ringRecords ∧ s.store.filling.map Frame.seq = s.store.filling.map (fun _ => s.ingest.mark) ∧
    s.ingest.port.hasRecord = s.store.filling.isSome ∧
    (s.ingest.state = .running ∨ s.ingest.port = .closed) ∧
    s.ingest.mark ≤ Config.numberEnd ∧ (s.ingest.mark < Config.numberEnd ∨ s.ingest.state = .stopped)

/-- The fields of an action lie in their ranges: a Mute names lanes other than P, pre and post are at most 255, and a
Retarget names an outlet and a target of at most 1,920 (R140, R152). -/
def WatchAction.lawful : WatchAction → Bool
  | .report => true
  | .cut kind lanes pre post => !lanesBad kind lanes && decide (pre ≤ 255) && decide (post ≤ 255)
  | .retarget set target => set != 0 && decide (target ≤ Config.depthMax)

/-- Every action, configured in a slot or waiting in the action queue, has its fields in their ranges (R140, R147). -/
abbrev State.ActionLaw (s : State) : Prop :=
  (∀ k : SlotId, ∀ c ∈ (s.slot k).config, c.action.lawful = true) ∧ ∀ e ∈ s.watch.queue, e.action.lawful = true

/-- For every outlet, floor ≤ target ≤ 1,920 ("Target and floor"). -/
abbrev State.TargetLaw (s : State) : Prop :=
  ∀ o : OutletId, (s.outletCfg o).floor ≤ (s.outletCfg o).target ∧ (s.outletCfg o).target ≤ Config.depthMax

/-- For every outlet: the spacing lies in 4 to 64 and the spacing count below it, the deferred count is at most 8 and
is 0 unless the outlet is Rebuilding or Squeezing, an outlet that is not running has a spacing count of 0, and while
the part is Loading every outlet is Off (R78, R186). -/
abbrev State.CountLaw (s : State) : Prop :=
  ∀ o : OutletId,
    4 ≤ (s.outletCfg o).spacing ∧ (s.outletCfg o).spacing ≤ 64 ∧
      (s.outlet o).spacingCount < (s.outletCfg o).spacing ∧ (s.outlet o).deferred ≤ 8 ∧
      ((s.outlet o).state.adjusts = true ∨ (s.outlet o).deferred = 0) ∧
      (s.isRunning o = true ∨ (s.outlet o).spacingCount = 0) ∧
      (s.settings.ready = true ∨ (s.outlet o).state = .off)

/-- Whether outlet `o` has frame `n` in flight. -/
def State.airs (s : State) (o : OutletId) (n : Nat) : Bool := decide (flightFrame (s.outlet o).inFlight = some n)

/-- An outlet is in a Held frame's owing set exactly when it is running and the frame's number is at least its N (R11);
a frame's emitting count is the number of outlets whose frame in flight it is (R13); a frame in flight is Held; and the
N of a running outlet lies between the oldest Held frame and I (R47). -/
abbrev State.ClaimLaw (s : State) : Prop :=
  (∀ f ∈ s.store.held, ∀ o : OutletId,
      member f.owing o.val = (s.isRunning o && decide ((s.outlet o).readMark ≤ f.seq))) ∧
    (∀ f ∈ s.store.held, f.emitting = four.countP (fun o => s.airs o f.seq)) ∧
    (∀ o : OutletId, ∀ n ∈ flightFrame (s.outlet o).inFlight, s.isHeld n = true) ∧
    (∀ o : OutletId, s.isRunning o = true →
      s.ingest.mark - s.store.held.length ≤ (s.outlet o).readMark ∧ (s.outlet o).readMark ≤ s.ingest.mark)

/-- An outlet that is Off, or whose sink is Lost, has no frame in flight (R50, R66, R71), and while the part is Loading
every outlet is Off (R186). -/
abbrev State.FlightLaw (s : State) : Prop :=
  (∀ o : OutletId, (s.outlet o).state = .off ∨ (s.outlet o).sink = .lost → (s.outlet o).inFlight = .none) ∧
    (s.settings.ready = true ∨ ∀ o : OutletId, (s.outlet o).state = .off)

/-- The clip of a filler frame in flight. -/
def flightClip : InFlight → Option ClipId
  | .none => none
  | .program _ => none
  | .again _ => none
  | .filler c _ => some c
  | .black => none

/-- A clip's users are the outlets whose frame in flight is a filler frame of the clip, and only a Ready clip has users
(R157, R165). -/
abbrev State.UserLaw (s : State) : Prop :=
  ∀ c : ClipId,
    (∀ o : OutletId, member (s.clip c).users o.val = decide (flightClip (s.outlet o).inFlight = some c)) ∧
      ((s.clip c).state = .ready ∨ (s.clip c).users = 0)

/-- Every page is free or chained to one record: the chained pages are at most the pool's, a chain has at most 64 pages,
and a page holds at most 16,384 bytes (R1, R33). -/
abbrev State.PageLaw (s : State) : Prop :=
  s.store.pages + s.bank.pages ≤ Config.poolPages ∧
    (∀ f ∈ s.store.held ++ s.store.filling.toList, f.pages.length ≤ Config.chainPages ∧
      ∀ p ∈ f.pages, p.data.length ≤ Config.pageBytes)

/-- At most 480 filler frame records are in use; a clip's count, copied count and frames agree with its state; and
every filler frame has a chain of at most 64 pages (R157, R158, R159). -/
abbrev State.ClipLaw (s : State) : Prop :=
  (s.bank.clips.toList.map (fun k => k.frames.length)).sum ≤ Config.fillerRecords ∧
    ∀ c : ClipId,
      (s.clip c).frames.length = (s.clip c).count ∧ (s.clip c).count ≤ Config.clipFrames ∧
        ((s.clip c).state = .empty → s.clip c = Clip.emptied) ∧
        ((s.clip c).state = .ready → 1 ≤ (s.clip c).count ∧ (s.clip c).copied = (s.clip c).count) ∧
        ∀ x ∈ (s.clip c).frames, x.pages.length ≤ Config.chainPages ∧
          ∀ p ∈ x.pages, p.data.length ≤ Config.pageBytes

/-- The copy engine of clip `c` at frame `n` with `d` pages of it copied: the clip is Grabbing, `n` is the next frame of
its range, its chain so far has `d` pages of the more that frame `n` has and the later ones are empty, and the frames
still to copy are Held (R157, R160, R161). -/
abbrev State.CopyLaw (s : State) (c : ClipId) (n d : Nat) : Prop :=
  (s.clip c).copied < (s.clip c).count ∧ (s.clip c).sourceFirst = some (n - (s.clip c).copied) ∧
    (s.clip c).copied ≤ n ∧
    (∀ x ∈ (s.clip c).frames[(s.clip c).copied]?, x.pages.length = d) ∧
    (∀ x ∈ (s.clip c).frames.drop ((s.clip c).copied + 1), x.pages = []) ∧
    (∀ f ∈ s.heldFrame n, d < f.pages.length) ∧
    ∀ i, i < (s.clip c).count - (s.clip c).copied → s.isHeld (n + i) = true

/-- Whether the copy engine has still to copy frame `n`. -/
def State.toCopy (s : State) (n : Nat) : Bool :=
  match s.bank.engine with
  | .idle => false
  | .copying c m _ => decide (m ≤ n) && decide (n < m + ((s.clip c).count - (s.clip c).copied))

/-- What the copy engine has under copy: the clip, the frame, and the pages of it copied. -/
def CopyEngine.work : CopyEngine → Option (ClipId × Nat × Nat)
  | .idle => none
  | .copying c n d => some (c, n, d)

/-- The frames that bear a grab hold are those that the copy engine has still to copy, a clip is Grabbing exactly when
the engine copies into it, and the engine keeps its law (R14, R157, R159). -/
abbrev State.GrabLaw (s : State) : Prop :=
  (∀ f ∈ s.store.held, f.grabHold = s.toCopy f.seq) ∧
    (s.bank.engine = .idle → ∀ c : ClipId, (s.clip c).state ≠ .grabbing) ∧
    ∀ x ∈ s.bank.engine.work, (∀ k : ClipId, (s.clip k).state = .grabbing ↔ k = x.1) ∧ s.CopyLaw x.1 x.2.1 x.2.2

/-- A record's own law: a closed record has no holders and no least last, and an open one has a holder; a Mute names
lanes other than P, and the other kinds all ten (R94). -/
abbrev CutRecord.Lawful (r : CutRecord) : Prop :=
  (r.isOpen = true ∨ (r.holders = 0 ∧ r.leastLast = none)) ∧ (r.isOpen = false ∨ r.holders ≠ 0) ∧
    1 ≤ r.id ∧ r.id ≤ 255 ∧
    (if r.kind = .mute then lanesBad .mute r.lanes = false else r.lanes = allLanes)

/-- Every record keeps its law, and no two records have one id (R94, R95). -/
abbrev State.CutLaw (s : State) : Prop :=
  (∀ r ∈ s.cuts.records, r.Lawful) ∧ (s.cuts.records.map CutRecord.id).Nodup ∧
    1 ≤ s.cuts.nextId ∧ s.cuts.nextId ≤ 255

/-- No two records of the table meet (R105). -/
abbrev State.MeetLaw (s : State) : Prop := s.cuts.records.Pairwise (fun a b => a.meets s.edge b = false)

/-- While any frame is Held every closed record's last is at least the oldest Held frame's number, and while none is Held
no record is closed (R108, R117). -/
abbrev State.ClosedLaw (s : State) : Prop :=
  ∀ r ∈ s.cuts.records, ∀ l ∈ r.last, ∃ h ∈ s.oldestHeld, h ≤ l

/-- No open record has reached the hold limit: E − first + 1 is at most the limit (R111). -/
abbrev State.LimitLaw (s : State) : Prop :=
  ∀ r ∈ s.cuts.records, r.last = none → ∀ e ∈ s.edge, e + 1 ≤ r.first + s.settings.current.holdLimit

/-- The standing of a panel agrees with its error count: Active to 63, Warned from 64 to 159, Isolated from 160 to 163
(R133). -/
abbrev State.StandingLaw (s : State) : Prop :=
  ∀ p : PanelId,
    ((s.panel p).standing = .active ∧ (s.panel p).errorCount ≤ 63) ∨
      ((s.panel p).standing = .warned ∧ 64 ≤ (s.panel p).errorCount ∧ (s.panel p).errorCount ≤ 159) ∨
      ((s.panel p).standing = .isolated ∧ 160 ≤ (s.panel p).errorCount ∧ (s.panel p).errorCount ≤ 163)

/-- A panel in Isolated holds no record and has both lamps off (R112, R133). -/
abbrev State.IsolationLaw (s : State) : Prop :=
  ∀ p : PanelId, (s.panel p).standing = .isolated →
    (s.panel p).muteLamp = false ∧ (s.panel p).coverLamp = false ∧
      ∀ r ∈ s.cuts.records, member r.holders p.val = false

/-- A Disabled slot has no capture and its lost flag is no; an Armed or Spent one has a configuration (R141, R152). -/
abbrev State.SlotLaw (s : State) : Prop :=
  ∀ k : SlotId,
    ((s.slot k).state = .disabled → (s.slot k).capture = none ∧ (s.slot k).lost = false) ∧
      ((s.slot k).state = .disabled ∨ (s.slot k).config.isSome = true)

/-! ## Words for the statements -/

/-- The blocks of the part, and the queue of commands, apart from the link. -/
inductive Block where
  | store
  | ingest
  | outlets
  | cuts
  | watch
  | bank
  | panels
  | settings
  | pending
  deriving DecidableEq, Repr

/-- A block is the same in two states. -/
def Block.same (b : Block) (s t : State) : Prop :=
  match b with
  | .store => t.store = s.store
  | .ingest => t.ingest = s.ingest
  | .outlets => t.outlets = s.outlets
  | .cuts => t.cuts = s.cuts
  | .watch => t.watch = s.watch
  | .bank => t.bank = s.bank
  | .panels => t.panels = s.panels
  | .settings => t.settings = s.settings
  | .pending => t.pending = s.pending

/-- Every block but those named is the same in two states. -/
def KeptBut (changed : List Block) (s t : State) : Prop := ∀ b : Block, b ∉ changed → b.same s t

/-- Notices posted in order at the link. -/
def Link.postAll (l : Link) (ns : List Notice) : Link := ns.foldl Link.post l

/-- A reply in the reply slot. -/
def Link.answered (l : Link) (body : List Byte) : Link := { l with reply := some body }

/-- What an event does to the link: a waiting packet begins to leave, the event's own change is made, and the
transmitter chooses again if it is Idle (R177). -/
def Link.event (f : Link → Link) (l : Link) : Link := (f l.choose).choose

/-- The link keeps all but what leaves and what waits to leave: rate, receiver, buffer, counters, reset cause and
pending reset. -/
abbrev LinkKept (s t : State) : Prop :=
  t.link.rate = s.link.rate ∧ t.link.receiver = s.link.receiver ∧ t.link.buffer = s.link.buffer ∧
    t.link.discarded = s.link.discarded ∧ t.link.overrun = s.link.overrun ∧
    t.link.pendingReset = s.link.pendingReset ∧ t.link.resetCause = s.link.resetCause

/-- A request that arrives is taken at once: the part is Ready, the reply slot and the buffer are empty, and no reset
is pending (R173, R174, R182). -/
abbrev State.TakesRequests (s : State) : Prop :=
  s.settings.ready = true ∧ s.link.reply = none ∧ s.link.buffer = [] ∧ s.link.pendingReset = false

/-- Command `i` completes from `s` in `t`, with only the blocks named changed, the notices posted in order, and the
reply in the reply slot. -/
def Answered (i : Instr) (s t : State) (changed : List Block) (notices : List Notice) (reply : List Byte) : Prop :=
  exec i s = .next t ∧ KeptBut changed s t ∧
    t.link = Link.event (fun l => (l.postAll notices).answered reply) s.link

/-- Command `i` is answered with the reply, and changes nothing else. -/
def Refused (i : Instr) (s : State) (reply : List Byte) : Prop := ∃ t, Answered i s t [] [] reply

/-- Command `i` completes from `s` in `t`, with only the blocks named changed and the notices posted in order. -/
def Completes (i : Instr) (s t : State) (changed : List Block) (notices : List Notice) : Prop :=
  exec i s = .next t ∧ KeptBut changed s t ∧ t.link = Link.event (fun l => l.postAll notices) s.link

/-- The reply of a request to its owner's answer. -/
def replyOf (r : Request) (tag : Byte) (code : ResultCode) (fields : List Byte) : List Byte :=
  replyBody r.type tag { code := code, fields := fields }

/-- The tag and the request of a request row; none for an event at a port. -/
def requestOf : Instr → Option (Byte × Request)
  | .powerOnReset _ => none
  | .loadEnd _ => none
  | .saveWriteEnd _ => none
  | .controlByteReceived _ => none
  | .controlGapExpiry => none
  | .transmitEnd _ => none
  | .status t => some (t, .status)
  | .reset t => some (t, .reset)
  | .outletStart t o m k => some (t, .outletStart o m k)
  | .outletStop t o => some (t, .outletStop o)
  | .outletTarget t o x => some (t, .outletTarget o x)
  | .outletFloor t o x => some (t, .outletFloor o x)
  | .floorUnlock t o k => some (t, .floorUnlock o k)
  | .outletShape t o a b => some (t, .outletShape o a b)
  | .outletClip t o c => some (t, .outletClip o c)
  | .outletRead t o c => some (t, .outletRead o c)
  | .ingestStart t => some (t, .ingestStart)
  | .ingestStop t => some (t, .ingestStop)
  | .ingestRate t r => some (t, .ingestRate r)
  | .ingestPause t f => some (t, .ingestPause f)
  | .retainSet t d => some (t, .retainSet d)
  | .frameRead t n => some (t, .frameRead n)
  | .cut t k l a b => some (t, .cut k l a (if b.isSome then 1 else 0) (b.getD 0))
  | .cutClose t i => some (t, .cutClose i)
  | .cutRead t i => some (t, .cutRead i)
  | .cutList t p => some (t, .cutList p)
  | .watchSet t k w => some (t, .watchSet k w)
  | .watchArm t k => some (t, .watchArm k)
  | .watchDisarm t k => some (t, .watchDisarm k)
  | .watchRead t k => some (t, .watchRead k)
  | .clipGrab t c a n => some (t, .clipGrab c a n)
  | .clipClear t c => some (t, .clipClear c)
  | .clipRead t c p => some (t, .clipRead c p)
  | .panelSet t p a l b q => some (t, .panelSet p a l b q)
  | .panelRestore t p => some (t, .panelRestore p)
  | .panelRead t p => some (t, .panelRead p)
  | .settingsSave t f => some (t, .settingsSave f)
  | .settingsDefault t => some (t, .settingsDefault)
  | .panelByteReceived _ _ => none
  | .panelGapExpiry _ => none
  | .tallySent _ => none
  | .sourceLost => none
  | .sourceReturned => none
  | .referenceLost => none
  | .referenceReturned => none
  | .referenceFrameTime => none
  | .frameStart _ => none
  | .sectionData _ => none
  | .frameEnd => none
  | .storeReadError _ => none
  | .fillerReadError _ => none
  | .periodStart _ => none
  | .quarterBoundary _ _ => none
  | .sinkLost _ => none
  | .sinkReturned _ => none
  | .adjustmentFallsDue _ => none
  | .holdLimitClose => none
  | .watchCut => none
  | .retarget _ => none
  | .copyPageDone => none

/-- An outlet record with other counters. -/
def Outlet.counting (u : Outlet) (f : OutletCounters → OutletCounters) : Outlet := { u with counters := f u.counters }

/-- An outlet record after a period that emits filler from clip `c`, whose record is `k` (R60, R74). -/
def Outlet.filled (c : ClipId) (k : Clip) (u : Outlet) : Outlet :=
  let p := if u.lastEmission = .program then 0 else u.clipPosition
  let q := if k.count ≤ p then 0 else p
  let v := u.counting (fun n => { n with filler := n.filler + 1 })
  if k.state = .ready then
    { v with
      inFlight := .filler c q, clipPosition := if k.count ≤ q + 1 then 0 else q + 1, quarter := 0, dataLost := false }
  else { v with inFlight := .black, clipPosition := p, quarter := 0, dataLost := false }

/-- The Filler Bank after outlet `o` has emitted filler: it is a user of its clip when the clip is Ready (R165). -/
def State.filledBank (s : State) (o : OutletId) : FillerBank :=
  let c := (s.outletCfg o).clip
  if (s.clip c).state = .ready then
    (let k := { s.clip c with users := insertBit (s.clip c).users o.val }
     { s.bank with clips := s.bank.clips.set c.val k c.isLt })
  else s.bank

/-- The number that `width` bytes of a body spell from an offset on, low byte first (R191). -/
def field (body : List Byte) (offset width : Nat) : Nat := fromLe ((body.drop offset).take width)

/-- An optional number stands in a body at an offset: a presence byte, then its bytes, zeros when it is absent (R191). -/
abbrev OptionalAt (body : List Byte) (offset width : Nat) (x : Option Nat) : Prop :=
  field body offset 1 = (if x.isSome then 1 else 0) ∧ field body (offset + 1) width = x.getD 0 % 2 ^ (8 * width)

/-- The Held frames after the store has looked for frames to release (R16). -/
def State.released (s : State) (held : List Frame) : List Frame :=
  held.dropWhile (Frame.releasable s.ingest.mark s.settings.current.retention)

/-- The Held frames with the frames of a condition changed. -/
def State.heldWith (s : State) (which : Nat → Bool) (f : Frame → Frame) : List Frame :=
  s.store.held.map (fun x => if which x.seq then f x else x)

/-- Whether a result code says that a request was carried out (R176). -/
def ResultCode.carriedOut (c : ResultCode) : Bool :=
  c == .done || c == .merged || c == .widened || c == .clipped

/-- Commands carried out one after another, while each answers a next state. -/
def runAll : List Instr → State → Host.Outcome State Fault Refusal
  | [], s => .next s
  | i :: rest, s =>
    match exec i s with
    | .next t => runAll rest t
    | .fault f => .fault f
    | .refused r => .refused r

/-- The ranges of the settings (R185). -/
abbrev Settings.Lawful (c : Settings) : Prop :=
  (c.rate = 24 ∨ c.rate = 25 ∨ c.rate = 30) ∧ c.retention ≤ 1920 ∧ -60 ≤ c.threshold ∧ c.threshold ≤ -20 ∧
    (∀ o : OutletId, c.outlets[o].floor ≤ c.outlets[o].target ∧ c.outlets[o].target ≤ 1920 ∧
      1 ≤ c.outlets[o].tolerance ∧ c.outlets[o].tolerance ≤ 8 ∧ 4 ≤ c.outlets[o].spacing ∧
      c.outlets[o].spacing ≤ 64) ∧
    (∀ p : PanelId, 1 ≤ c.panels[p].span ∧ c.panels[p].span ≤ 1920 ∧ c.panels[p].lanes ≠ 0 ∧
      member c.panels[p].lanes laneP.val = false ∧ c.panels[p].preroll ≤ 30) ∧
    25 ≤ c.holdLimit ∧ c.holdLimit ≤ 600

end Sys2Proof.Machine
end

