-- ==== Sys2Proof/Certificates/Slice0/Obligations.lean ====
section
/-! DEFINITION. The statements for the provers. -/

open Sys2Proof Sys2Proof.Machine

/-! ## The queue of commands -/

/-- One step takes the command at the front of the queue and answers as its meaning does on the state with the queue's
rest; with no command waiting it changes nothing, which is the model's choice (log entry 2). -/
def Obligations.StepTakesTheFront : Prop :=
  (∀ (c : Instr) (rest : List Instr) (s : State), s.pending = c :: rest → step s = exec c (s.withPending rest)) ∧
  ∀ s : State, s.pending = [] → step s = .next s

/-- Every command completes in every state, and none touches the queue. (Rests on log entry 8, the model's choice.) -/
def Obligations.EveryCommandCompletes : Prop :=
  ∀ (i : Instr) (s : State), ∃ t, exec i s = .next t ∧ t.pending = s.pending

/-! ## The control link -/

/-- Every request is read back from its type byte and its fields, whatever value each field has. -/
def Obligations.RequestsReadBack : Prop :=
  ∀ (tag : Byte) (r : Request),
    Request.decode r.type r.fields = some r ∧ (r.body tag).length ∈ bodyLengths r.type

/-- A request that arrives when the link takes requests goes to its owner at once, and the owner's answer fills the
reply slot: for every request row and every tag from 1 to 255. The checks of the link, in order, on a packet that
arrives when the reply slot and the buffer are empty and no reset is pending: Unknown, NotReady, BadLength for a body
without a tag, BadValue for tag 0, BadLength. A packet that finds two packets in the buffer is discarded and counted.
(Rests on log entries 1, 3, 4, 19, the model's choices.) -/
def Obligations.RequestsAreTaken : Prop :=
  (∀ (i : Instr) (tag : Byte) (r : Request) (s : State),
    requestOf i = some (tag, r) → tag ≠ 0 → s.TakesRequests →
      exec i s = .next ((s.transmit.owner r).1.fillSlot (replyBody r.type tag (s.transmit.owner r).2)).transmit) ∧
  (∀ (s : State) (type tag : Byte) (fields : List Byte),
    s.link.reply = none → s.link.buffer = [] → s.link.pendingReset = false →
      (bodyLengths type = [] →
        s.acceptPacket (type :: tag :: fields) = s.refuseAtLink type tag .unknown ∧
        s.acceptPacket [type] = s.refuseAtLink type 0 .unknown) ∧
      (bodyLengths type ≠ [] → s.settings.ready = false → type ≠ 0x01 →
        s.acceptPacket (type :: tag :: fields) = s.refuseAtLink type tag .notReady ∧
        s.acceptPacket [type] = s.refuseAtLink type 0 .notReady) ∧
      (bodyLengths type ≠ [] → (s.settings.ready = true ∨ type = 0x01) →
        s.acceptPacket [type] = s.refuseAtLink type 0 .badLength ∧
        (tag = 0 → s.acceptPacket (type :: tag :: fields) = s.refuseAtLink type 0 .badValue) ∧
        (tag ≠ 0 → fields.length + 2 ∉ bodyLengths type →
          s.acceptPacket (type :: tag :: fields) = s.refuseAtLink type tag .badLength))) ∧
  (∀ (s : State) (body : List Byte), 2 ≤ s.link.buffer.length →
    s.acceptPacket body = s.modLink (fun l => { l with overrun := l.overrun + 1 }))

/-- A packet that arrives byte by byte, from SYNC to CHECK, at an Idle receiver does what its body's acceptance does,
for every body of 1 to 250 bytes; with any other CHECK byte it is discarded and counted, and nothing else changes.
The transmitter has nothing to begin when the first byte comes. (Rests on log entries 3, 4, the model's choices.) -/
def Obligations.BytesMakeAPacket : Prop :=
  ∀ (s : State) (body : List Byte), 1 ≤ body.length → body.length ≤ 250 → s.link.receiver = .idle →
    s.link.choose = s.link →
      runAll ((packet body).map Instr.controlByteReceived) s = .next (s.acceptPacket body).transmit ∧
      ∀ c : Byte, c ≠ checkByte body →
        runAll ((sync :: BitVec.ofNat 8 body.length :: (body ++ [c])).map Instr.controlByteReceived) s =
          .next s.discardFromHost

/-- One byte, or the expiry of the gap, at each state of the control link's receiver: only the receiver and the
discarded counter change until a packet is good. (Rests on log entries 3, 4, 8, the model's choices.) -/
def Obligations.HostReceiver : Prop :=
  ∀ (s : State) (b : Byte),
    (s.link.receiver = .idle → ∃ t, exec (.controlByteReceived b) s = .next t ∧ KeptBut [] s t ∧
      t.link = Link.event (fun l => { l with receiver := if b = sync then .inPacket [] else .idle }) s.link) ∧
    (s.link.receiver = .inPacket [] → (b = 0 ∨ 250 < b.toNat) →
      ∃ t, exec (.controlByteReceived b) s = .next t ∧ KeptBut [] s t ∧
        t.link = Link.event (fun l => { l with receiver := .idle, discarded := l.discarded + 1 }) s.link) ∧
    (s.link.receiver = .inPacket [] → b ≠ 0 → b.toNat ≤ 250 →
      ∃ t, exec (.controlByteReceived b) s = .next t ∧ KeptBut [] s t ∧
        t.link = Link.event (fun l => { l with receiver := .inPacket [b] }) s.link) ∧
    (∀ (len : Byte) (body : List Byte), s.link.receiver = .inPacket (len :: body) → body.length < len.toNat →
      ∃ t, exec (.controlByteReceived b) s = .next t ∧ KeptBut [] s t ∧
        t.link = Link.event (fun l => { l with receiver := .inPacket (len :: (body ++ [b])) }) s.link) ∧
    (s.link.receiver = .idle → ∃ t, Completes .controlGapExpiry s t [] []) ∧
    (∀ bytes : List Byte, s.link.receiver = .inPacket bytes →
      ∃ t, exec .controlGapExpiry s = .next t ∧ KeptBut [] s t ∧
        t.link = Link.event (fun l => { l with receiver := .idle, discarded := l.discarded + 1 }) s.link)

/-- The transmitter's choice of the next packet, and what the end of a packet does: a notice that has left makes room
for the choice, a reply that has left frees the reply slot and the link takes the next request, before the choice. (Rests on log
entries 3, 4, 7, 8, 32, 49, the model's choices.) -/
def Obligations.TransmitterAlternates : Prop :=
  (∀ l : Link,
    (l.transmitter ≠ .idle → l.choose = l) ∧
    (l.transmitter = .idle → l.reply = none → l.notices = [] → l.choose = l) ∧
    (∀ b, l.transmitter = .idle → l.reply = some b → l.notices = [] →
      l.choose = { l with transmitter := .sendingReply, lastSent := .reply }) ∧
    (∀ n rest, l.transmitter = .idle → l.reply = none → l.notices = n :: rest →
      l.choose = { l with transmitter := .sendingNotice n, lastSent := .notice, notices := rest }) ∧
    (∀ b n rest, l.transmitter = .idle → l.reply = some b → l.notices = n :: rest →
      l.choose = if l.lastSent = .reply
        then { l with transmitter := .sendingNotice n, lastSent := .notice, notices := rest }
        else { l with transmitter := .sendingReply, lastSent := .reply })) ∧
  (∀ (s : State) (straps : Baud),
    (s.link.choose.transmitter = .idle → exec (.transmitEnd straps) s = .next s.transmit) ∧
    (∀ n, s.link.choose.transmitter = .sendingNotice n →
      ∃ t, exec (.transmitEnd straps) s = .next t ∧ KeptBut [] s t ∧
        t.link = { s.link.choose with transmitter := .idle }.choose) ∧
    (s.link.choose.transmitter = .sendingReply → s.link.pendingReset = false → s.link.buffer = [] →
      ∃ t, exec (.transmitEnd straps) s = .next t ∧ KeptBut [] s t ∧
        t.link = { s.link.choose with transmitter := .idle, reply := none }.choose) ∧
    (∀ body rest, s.link.choose.transmitter = .sendingReply → s.link.pendingReset = false →
      s.link.buffer = body :: rest →
        exec (.transmitEnd straps) s =
          .next ((s.modLink (fun l =>
            { l.choose with transmitter := .idle, reply := none, buffer := rest })).takeRequest body).transmit))

/-- The values of every block after a reset, field by field, with the settings at their factory values. A power-on
reset takes effect at once, in every state; a soft reset takes effect when the RESET reply has been sent in full, with
the conditions of the ports kept. Either abandons a write of the profile, which leaves it unsound, and a grab, which
becomes the last grab, Aborted with cause Reset. (Rests on log entries 3, 6, 7, 33, the model's choices.) -/
def Obligations.ResetsTakeEffect : Prop :=
  (∀ (cause : ResetCause) (ports : PortReport) (flash : Flash) (grab : LastGrab) (q : List Instr),
    let t := State.afterReset cause ports flash grab q
    t.store.held = [] ∧ t.store.filling = none ∧ t.freePages = 131072 ∧ t.freeFillerRecords = 480 ∧
      t.edge = none ∧
      t.ingest =
        { state := .stopped, cause := .none, mark := 0, port := .closed, tracker := none, source := ports.source
          reference := ports.reference, completed := 0, damaged := 0, bridged := 0, refused := 0 } ∧
      (∀ o : OutletId, t.outlet o =
        { state := .off, readMark := 0, spacingCount := 0, deferred := 0, exposure := false, inFlight := .none
          quarter := 0, lastEmission := .none, lastProgram := none, clipPosition := 0, unlockOpen := false
          episode := false, sink := ports.sinks[o], missed := 0
          counters := { emitted := 0, skipped := 0, covered := 0, mutedQuarters := 0, inserted := 0, removed := 0
                        forced := 0, filler := 0, underruns := 0, pressed := 0 }
          muteLanes := 0, dataLost := false }) ∧
      t.cuts.records = [] ∧ t.cuts.nextId = 1 ∧
      (∀ k : SlotId, t.slot k =
        { state := .disabled, config := none, capture := none, lost := false, result := .none, detail := .none }) ∧
      t.watch.queue = [] ∧
      (∀ c : ClipId, t.clip c =
        { state := .empty, sourceFirst := none, count := 0, frames := [], copied := 0, users := 0 }) ∧
      t.bank.engine = .idle ∧ t.bank.lastGrab = grab ∧
      (∀ p : PanelId, t.panel p =
        { receiver := .idle, standing := .active, errorCount := 0, muteLamp := false, coverLamp := false
          lastResult := none, packetsTaken := 0, transmitter := .idle, tallyOwed := false, good := 0, badCheck := 0
          badLength := 0, badGap := 0, discarded := 0 }) ∧
      t.link =
        { rate := ports.straps, receiver := .idle, buffer := [], reply := none, transmitter := .idle
          lastSent := .none, notices := [.restarted cause], lostNotice := false, resetCause := cause, discarded := 0
          overrun := 0, pendingReset := false } ∧
      (∀ o : OutletId, t.outletCfg o =
        { target := 210, floor := 150, tolerance := 2, spacing := 12, clip := 0, autostart := false }) ∧
      (∀ p : PanelId, t.panelCfg p = { span := 90, lanes := 0x3fe, buttons := 0xf, preroll := 6 }) ∧
      t.settings.current.rate = 30 ∧ t.settings.current.retention = 300 ∧ t.settings.current.threshold = -45 ∧
      t.settings.current.pauseCue = 0 ∧ t.settings.current.cueEnable = false ∧
      t.settings.current.holdLimit = 150 ∧ t.settings.current.floorKey = 0 ∧
      t.settings.current.ingestAuto = false ∧ t.settings.ready = false ∧ t.settings.save = .idle ∧
      t.settings.lastLoad = none ∧ t.settings.flash = flash ∧ t.pending = q) ∧
  ∀ (s : State) (ports : PortReport) (straps : Baud) (flash : Flash) (grab : LastGrab),
    (∀ ws, s.settings.save = .writing ws → flash = .unsound) → (s.settings.save = .idle → flash = s.settings.flash) →
    (s.bank.engine = .idle → grab = .none) →
    (∀ c n k, s.bank.engine = .copying c n k → grab = .aborted c .reset (s.clip c).copied) →
      exec (.powerOnReset ports) s = .next (State.afterReset .powerOn ports flash grab s.pending) ∧
      (s.link.transmitter = .sendingReply → s.link.pendingReset = true →
        exec (.transmitEnd straps) s =
          .next (State.afterReset .soft
            { source := s.ingest.source, reference := s.ingest.reference, sinks := s.outlets.map Outlet.sink
              straps := straps } flash grab s.pending))

/-- STATUS is answered in every state of the part, Loading too, with the fields as they stand, and clears the
lost-notice flag; RESET is answered Done and makes a reset pending. (Rests on log entries 1, 3, 4, 22, the model's
choices.) -/
def Obligations.StatusAndReset : Prop :=
  ∀ (s : State) (tag : Byte), tag ≠ 0 → s.link.reply = none → s.link.buffer = [] → s.link.pendingReset = false →
    (∃ t, exec (.status tag) s = .next t ∧ KeptBut [] s t ∧
      t.link = Link.event (fun l =>
        { l.answered (replyOf .status tag .done s.statusBytes) with lostNotice := false }) s.link) ∧
    (s.settings.ready = true → ∃ t, exec (.reset tag) s = .next t ∧ KeptBut [] s t ∧
      t.link = Link.event (fun l =>
        { l.answered (replyOf .reset tag .done []) with pendingReset := true }) s.link)

/-- A request that its owner refuses changes no block: for every request but OUTLET FLOOR, whose refusal closes floor
unlock, and then nothing else. A number of an outlet, slot, clip or panel out of range is refused BadValue, and so is
a mode, a clip or a clear field out of range; the reply carries no fields, and nothing else changes. (Rests on log
entries 1, 3, 4, 20, 21, the model's choices.) -/
def Obligations.RefusalsChangeNothing : Prop :=
  (∀ (s : State) (r : Request), (s.owner r).2.code.carriedOut = false →
    (s.owner r).1 = s ∨
      ∃ (o : OutletId) (outlet : Byte) (floor : Half), r = .outletFloor outlet floor ∧ outlet.toNat = o.val ∧
        (s.owner r).1 = s.modOutlet o (fun u => { u with unlockOpen := false })) ∧
  ∀ (s : State) (tag x y z : Byte) (h k : Half) (n : BitVec 32) (w : WatchFields), tag ≠ 0 → s.TakesRequests →
    (3 < x.toNat →
      Refused (.outletStart tag x y h) s (replyOf (.outletStart x y h) tag .badValue []) ∧
      Refused (.outletStop tag x) s (replyOf (.outletStop x) tag .badValue []) ∧
      Refused (.outletTarget tag x h) s (replyOf (.outletTarget x h) tag .badValue []) ∧
      Refused (.outletFloor tag x h) s (replyOf (.outletFloor x h) tag .badValue []) ∧
      Refused (.floorUnlock tag x h) s (replyOf (.floorUnlock x h) tag .badValue []) ∧
      Refused (.outletShape tag x y z) s (replyOf (.outletShape x y z) tag .badValue []) ∧
      Refused (.outletClip tag x y) s (replyOf (.outletClip x y) tag .badValue []) ∧
      Refused (.outletRead tag x y) s (replyOf (.outletRead x y) tag .badValue []) ∧
      Refused (.panelSet tag x h k y z) s (replyOf (.panelSet x h k y z) tag .badValue []) ∧
      Refused (.panelRestore tag x) s (replyOf (.panelRestore x) tag .badValue [])) ∧
    (7 < x.toNat →
      Refused (.outletClip tag y x) s (replyOf (.outletClip y x) tag .badValue []) ∧
      Refused (.clipGrab tag x n y) s (replyOf (.clipGrab x n y) tag .badValue []) ∧
      Refused (.clipClear tag x) s (replyOf (.clipClear x) tag .badValue [])) ∧
    (15 < x.toNat →
      Refused (.watchSet tag x w) s (replyOf (.watchSet x w) tag .badValue []) ∧
      Refused (.watchArm tag x) s (replyOf (.watchArm x) tag .badValue []) ∧
      Refused (.watchDisarm tag x) s (replyOf (.watchDisarm x) tag .badValue []) ∧
      Refused (.watchRead tag x) s (replyOf (.watchRead x) tag .badValue [])) ∧
    (2 < x.toNat → Refused (.outletStart tag y x h) s (replyOf (.outletStart y x h) tag .badValue [])) ∧
    (1 < x.toNat → Refused (.outletRead tag y x) s (replyOf (.outletRead y x) tag .badValue []))

/-- The values of the result codes and their place in a reply, and the type byte of the body of every notice. -/
def Obligations.CodeAndTypeValues : Prop :=
  (ResultCode.done.toByte = 0x00 ∧ ResultCode.merged.toByte = 0x01 ∧ ResultCode.widened.toByte = 0x02 ∧
    ResultCode.clipped.toByte = 0x03 ∧ ResultCode.unknown.toByte = 0x10 ∧ ResultCode.badLength.toByte = 0x11 ∧
    ResultCode.badValue.toByte = 0x12 ∧ ResultCode.notReady.toByte = 0x13 ∧ ResultCode.busy.toByte = 0x14 ∧
    ResultCode.stateWrong.toByte = 0x15 ∧ ResultCode.slotBusy.toByte = 0x16 ∧ ResultCode.tableFull.toByte = 0x17 ∧
    ResultCode.clipInUse.toByte = 0x18 ∧ ResultCode.locked.toByte = 0x19 ∧ ResultCode.badKey.toByte = 0x1a ∧
    ResultCode.outOfStore.toByte = 0x1b ∧ ResultCode.noSpace.toByte = 0x1c ∧ ResultCode.nothing.toByte = 0x1d ∧
    ResultCode.alreadyClosed.toByte = 0x1e) ∧
  (∀ (type tag : Byte) (a : Answer), (replyBody type tag a)[2]? = some a.code.toByte) ∧
  ∀ n : Notice, n.body.head? = some (match n with
    | .restarted _ => 0xc0
    | .settingsDefaulted _ => 0xc1
    | .saveDone _ => 0xc2
    | .saveFailed => 0xc3
    | .ingestState _ _ _ _ => 0xc4
    | .ingestRefused _ => 0xc5
    | .frameDamaged _ _ => 0xc6
    | .outletState _ _ _ _ => 0xc7
    | .exposed _ _ => 0xc8
    | .underrun _ _ => 0xc9
    | .pressed _ _ _ => 0xca
    | .rejoined _ _ => 0xcb
    | .cutClosed _ _ _ _ _ _ _ => 0xcc
    | .holdTimedOut _ _ _ _ _ => 0xcd
    | .watchCapture _ _ _ _ _ => 0xce
    | .grabDone _ _ _ _ => 0xcf
    | .grabAborted _ _ _ _ => 0xd0
    | .panelStanding _ _ _ _ => 0xd1)

/-! ## Reads -/

/-- The requests that only read answer Done with the report of what they name, and change no block: FRAME READ, CUT
READ, CUT LIST, CLIP READ and PANEL READ; each refuses what is not there. (Rests on log entries 1, 3, 4, 21, 22, the
model's choices.) -/
def Obligations.ReadsReport : Prop :=
  ∀ (s : State) (tag : Byte), tag ≠ 0 → s.TakesRequests →
    (∀ (n : BitVec 32) (held : Bool) (f : Frame), s.frameOf n.toNat = some (held, f) →
      ∃ t, Answered (.frameRead tag n) s t [] [] (replyOf (.frameRead n) tag .done (f.bytes held))) ∧
    (∀ n : BitVec 32, s.frameOf n.toNat = none →
      ∃ t, Answered (.frameRead tag n) s t [] [] (replyOf (.frameRead n) tag .outOfStore [])) ∧
    (∀ (id : Byte) (k : Nat) (r : CutRecord), s.cutById id.toNat = some r → s.cutPosition id.toNat = some k →
      ∃ t, Answered (.cutRead tag id) s t [] [] (replyOf (.cutRead id) tag .done (r.bytes k))) ∧
    (∀ id : Byte, s.cutById id.toNat = none →
      ∃ t, Answered (.cutRead tag id) s t [] [] (replyOf (.cutRead id) tag .badValue [])) ∧
    (∀ position : Byte, position.toNat ≤ 31 →
      ∃ t, Answered (.cutList tag position) s t [] []
        (replyOf (.cutList position) tag .done (s.cutListBytes position.toNat))) ∧
    (∀ position : Byte, 31 < position.toNat →
      ∃ t, Answered (.cutList tag position) s t [] [] (replyOf (.cutList position) tag .badValue [])) ∧
    (∀ (clip position : Byte) (c : ClipId), clip.toNat = c.val → position.toNat ≤ 119 →
      ∃ t, Answered (.clipRead tag clip position) s t [] []
        (replyOf (.clipRead clip position) tag .done (s.clipReport c ++
          optional 9 (((s.clip c).reported position.toNat).map (FillerFrame.bytes position.toNat))))) ∧
    (∀ clip position : Byte, (7 < clip.toNat ∨ 119 < position.toNat) →
      ∃ t, Answered (.clipRead tag clip position) s t [] [] (replyOf (.clipRead clip position) tag .badValue [])) ∧
    (∀ (panel : Byte) (p : PanelId), panel.toNat = p.val →
      ∃ t, Answered (.panelRead tag panel) s t [] [] (replyOf (.panelRead panel) tag .done (s.panelReport p))) ∧
    (∀ panel : Byte, 3 < panel.toNat →
      ∃ t, Answered (.panelRead tag panel) s t [] [] (replyOf (.panelRead panel) tag .badValue []))

/-- The bytes of what the host and a panel read: the numbers of each enumeration, and by offset the fields of STATUS, of
a frame, of a cut record and of CUT LIST, of the outlet, ingest, slot, clip and panel reports, and of the tally. A number
too large for its field would be cut off at the field's width. (Rests on log entries 22, 41, 50, the model's
choices.) -/
def Obligations.ReportLayouts : Prop :=
  ([IngestState.stopped, .running, .bridging, .unclocked].map IngestState.toByte = [0, 1, 2, 3] ∧
    [IngestCause.none, .start, .stop, .sourceLost, .sourceReturned, .referenceLost, .referenceReturned,
      .sequenceEnd].map IngestCause.toByte = [0, 1, 2, 3, 4, 5, 6, 7] ∧
    [Presence.present, .lost].map presenceByte = [0, 1] ∧
    [OutletState.off, .holding, .rebuilding, .steady, .squeezing, .stopping].map OutletState.toByte =
      [0, 1, 2, 3, 4, 5] ∧
    [Condition.whole, .damaged, .empty].map Condition.toByte = [0, 1, 2] ∧
    [FillerCondition.whole, .empty].map FillerCondition.toByte = [0, 1] ∧
    [TimecodeSource.carried, .synthesized].map TimecodeSource.toByte = [0, 1] ∧
    [CutKind.drop, .cover, .mute].map CutKind.toByte = [0, 1, 2] ∧
    [CutOutcome.idle, .ahead, .inside, .done, .partly, .tooLate, .stopped].map CutOutcome.toByte =
      [0, 1, 2, 3, 4, 5, 6] ∧
    (∀ p : PanelId, (Origin.panel p).toByte.toNat = p.val) ∧ Origin.link.toByte = 0x04 ∧
    (∀ k : SlotId, (Origin.watch k).toByte.toNat = 0x10 + k.val) ∧
    [SlotState.disabled, .armed, .spent].map SlotState.toByte = [0, 1, 2] ∧
    [WatchSource.cue, .timecode].map WatchSource.toByte = [0, 1] ∧
    [WatchMode.once, .repeating].map WatchMode.toByte = [0, 1] ∧
    [ClipState.empty, .grabbing, .ready].map ClipState.toByte = [0, 1, 2] ∧
    [AbortCause.evicted, .readError, .noSpace, .cleared, .reset].map AbortCause.toByte = [0, 1, 2, 3, 4] ∧
    [Standing.active, .warned, .isolated].map Standing.toByte = [0, 1, 2] ∧
    [LoadResult.good, .check, .range, .read].map LoadResult.toByte = [0, 1, 2, 3] ∧
    [Button.drop, .dropAll, .mute, .cover].map Button.toByte = [1, 2, 3, 4] ∧
    [PanelMessage.press, .letGo].map PanelMessage.toByte = [2, 3]) ∧
  (∀ (s : State) (tag : Byte),
    let b := replyOf .status tag .done s.statusBytes
    let n := field b
    b.length = 65 ∧ b.take 3 = [0x81, tag, 0x00] ∧ n 3 1 = s.ingest.state.toByte.toNat ∧
      n 4 5 = s.ingest.mark % 2 ^ 40 ∧
      n 9 1 = (if s.store.filling.isSome then 1 else 0) + (if s.link.lostNotice then 2 else 0) +
        (if s.link.resetCause = .soft then 4 else 0) ∧
      OptionalAt b 10 4 s.oldestHeld ∧ n 15 2 = s.store.held.length % 2 ^ 16 ∧ n 17 4 = s.freePages ∧
      n 21 2 = s.freeFillerRecords ∧ n 23 1 = s.cuts.records.length % 2 ^ 8 ∧
      n 24 1 = (if s.settings.ready then 1 else 0) + (if s.settings.save = .idle then 0 else 2) +
        4 * (match s.settings.lastLoad with | some x => x.toByte.toNat | none => 0) ∧
      n 25 4 = s.link.discarded.toNat ∧ n 29 4 = s.link.overrun.toNat ∧
      ∀ o : OutletId,
        let e := 33 + 8 * o.val
        let u := s.outlet o
        let c := s.outletCfg o
        let d := s.ingest.mark - u.readMark
        (u.sink = .present →
          n e 1 = u.state.toByte.toNat + (if u.exposure = true ∧ d < c.floor then 8 else 0) ∧
          n (e + 1) 2 = (if s.isRunning o then d else 0) % 2 ^ 16 ∧ n (e + 3) 2 = c.target % 2 ^ 16 ∧
          n (e + 5) 2 = c.floor % 2 ^ 16 ∧ n (e + 7) 1 = 0) ∧
        (u.sink = .lost →
          n e 1 = 0x80 ∧ n (e + 1) 1 = 0x01 ∧ n (e + 2) 2 = u.missed % 2 ^ 16 ∧ n (e + 4) 4 = 0)) ∧
  (∀ (f : Frame) (held : Bool), f.cues.length ≤ 4 → f.captions.length ≤ 128 →
    let b := f.bytes held
    let n := field b
    b.length = 29 + f.captions.length ∧ n 0 4 = f.seq % 2 ^ 32 ∧ n 4 1 = (if held then 1 else 0) ∧
      (∀ x, f.timecode = some x → n 5 1 = x.hh % 2 ^ 8 ∧ n 6 1 = x.mm % 2 ^ 8 ∧ n 7 1 = x.ss % 2 ^ 8 ∧
        n 8 1 = x.ff % 2 ^ 8 ∧ n 9 1 = x.source.toByte.toNat) ∧
      (f.timecode = none → n 9 1 = 0xff) ∧ n 10 1 = f.pages.length % 2 ^ 8 ∧ n 11 2 = f.lanes.toNat ∧
      n 13 1 = f.condition.toByte.toNat ∧
      (∀ m, f.pause = some m → n 14 1 = (if m.isPause then 1 else 0) ∧ b[15]? = some (BitVec.ofInt 8 m.peak)) ∧
      (f.pause = none → n 14 1 = 0xff) ∧ n 16 1 = f.owing.toNat ∧ n 17 1 = f.emitting % 2 ^ 8 ∧
      n 18 1 = (if f.grabHold then 1 else 0) ∧ n 19 1 = f.cues.length ∧
      (∀ i, i < 4 → n (20 + 2 * i) 2 = (f.cues[i]?.getD 0).toNat) ∧ n 28 1 = f.captions.length ∧
      b.drop 29 = f.captions) ∧
  (∀ (r : CutRecord) (position : Nat),
    let b := r.bytes position
    let n := field b
    b.length = 25 ∧ n 0 1 = r.id % 2 ^ 8 ∧ n 1 1 = position % 2 ^ 8 ∧ n 2 1 = r.kind.toByte.toNat ∧
      n 3 2 = r.lanes.toNat ∧ n 5 1 = r.origin.toByte.toNat ∧ n 6 4 = r.first % 2 ^ 32 ∧
      OptionalAt b 10 4 r.last ∧ OptionalAt b 15 4 r.leastLast ∧ n 20 1 = r.holders.toNat ∧
      ∀ o : OutletId, n (21 + o.val) 1 = r.outcomes[o].toByte.toNat) ∧
  (∀ (s : State) (position : Nat),
    let b := s.cutListBytes position
    let n := field b
    let m := min (s.cuts.records.length - position) 16
    b.length = 2 + 12 * m ∧ n 0 1 = s.cuts.records.length % 2 ^ 8 ∧ n 1 1 = m ∧
      ∀ i r, i < m → s.cuts.records[position + i]? = some r →
        let e := 2 + 12 * i
        n e 1 = r.id % 2 ^ 8 ∧ n (e + 1) 1 = r.kind.toByte.toNat ∧ n (e + 2) 4 = r.first % 2 ^ 32 ∧
          OptionalAt b (e + 6) 4 r.last ∧
          n (e + 11) 1 = ((List.range 5).filter (fun j => member r.holders j)).length) ∧
  (∀ (s : State) (o : OutletId),
    let b := s.outletReport o
    let n := field b
    let u := s.outlet o
    let c := s.outletCfg o
    b.length = 74 ∧ n 0 1 = u.state.toByte.toNat ∧ n 1 5 = u.readMark % 2 ^ 40 ∧
      n 6 2 = (if s.isRunning o then s.ingest.mark - u.readMark else 0) % 2 ^ 16 ∧ n 8 2 = c.target % 2 ^ 16 ∧
      n 10 2 = c.floor % 2 ^ 16 ∧ n 12 1 = c.tolerance % 2 ^ 8 ∧ n 13 1 = c.spacing % 2 ^ 8 ∧
      n 14 1 = u.spacingCount % 2 ^ 8 ∧ n 15 1 = u.deferred % 2 ^ 8 ∧ n 16 1 = (if u.exposure then 1 else 0) ∧
      (u.inFlight = .none → n 17 5 = 0) ∧ (∀ k, u.inFlight = .program k → n 17 1 = 1 ∧ n 18 4 = k % 2 ^ 32) ∧
      (∀ k, u.inFlight = .again k → n 17 1 = 2 ∧ n 18 4 = k % 2 ^ 32) ∧
      (∀ z p, u.inFlight = .filler z p → n 17 1 = 3 ∧ n 18 1 = z.val ∧ n 19 1 = p % 2 ^ 8 ∧ n 20 2 = 0) ∧
      (u.inFlight = .black → n 17 1 = 4 ∧ n 18 4 = 0) ∧ n 22 1 = u.quarter.toNat ∧
      OptionalAt b 23 4 u.lastProgram ∧ n 28 1 = c.clip.val ∧ n 29 1 = u.clipPosition % 2 ^ 8 ∧
      n 30 1 = (if u.unlockOpen then 1 else 0) ∧ n 31 1 = (presenceByte u.sink).toNat ∧ n 32 2 = u.missed % 2 ^ 16 ∧
      n 34 4 = u.counters.emitted.toNat ∧ n 38 4 = u.counters.skipped.toNat ∧ n 42 4 = u.counters.covered.toNat ∧
      n 46 4 = u.counters.mutedQuarters.toNat ∧ n 50 4 = u.counters.inserted.toNat ∧
      n 54 4 = u.counters.removed.toNat ∧ n 58 4 = u.counters.forced.toNat ∧ n 62 4 = u.counters.filler.toNat ∧
      n 66 4 = u.counters.underruns.toNat ∧ n 70 4 = u.counters.pressed.toNat) ∧
  (∀ s : State,
    let b := s.ingestReport
    let n := field b
    let u := s.ingest
    let c := s.settings.current
    b.length = 31 ∧ n 0 1 = u.state.toByte.toNat ∧ n 1 1 = u.cause.toByte.toNat ∧ n 2 5 = u.mark % 2 ^ 40 ∧
      n 7 1 = (if s.store.filling.isSome then 1 else 0) ∧ n 8 1 = (presenceByte u.source).toNat ∧
      n 9 1 = (presenceByte u.reference).toNat ∧ n 10 1 = c.rate % 2 ^ 8 ∧
      b[11]? = some (BitVec.ofInt 8 c.threshold) ∧ n 12 2 = c.pauseCue.toNat ∧
      n 14 1 = (if c.cueEnable then 1 else 0) ∧ n 15 4 = u.completed.toNat ∧ n 19 4 = u.damaged.toNat ∧
      n 23 4 = u.bridged.toNat ∧ n 27 4 = u.refused.toNat) ∧
  (∀ (s : State) (k : SlotId),
    let b := s.slotReport k
    let n := field b
    let y := s.slot k
    b.length = 42 ∧ n 0 1 = k.val ∧ n 1 1 = y.state.toByte.toNat ∧
      (y.config = none → n 2 21 = 0) ∧
      (∀ c, y.config = some c → n 2 1 = 1 ∧ n 3 1 = c.source.toByte.toNat ∧ n 4 2 = c.pattern.toNat ∧
        n 6 2 = c.mask.toNat ∧ n 8 1 = c.timecode.hh.toNat ∧ n 9 1 = c.timecode.mm.toNat ∧
        n 10 1 = c.timecode.ss.toNat ∧ n 11 1 = c.timecode.ff.toNat ∧ n 12 1 = c.compare.toNat ∧
        n 13 1 = c.mode.toByte.toNat ∧ (c.action = .report → n 14 9 = 0) ∧
        (∀ kind lanes pre post, c.action = .cut kind lanes pre post → n 14 1 = 1 ∧ n 15 1 = kind.toByte.toNat ∧
          n 16 2 = lanes.toNat ∧ n 18 1 = pre % 2 ^ 8 ∧ n 19 1 = post % 2 ^ 8 ∧ n 20 3 = 0) ∧
        (∀ set target, c.action = .retarget set target → n 14 1 = 2 ∧ n 15 5 = 0 ∧ n 20 1 = set.toNat ∧
          n 21 2 = target % 2 ^ 16)) ∧
      (y.capture = none → n 23 13 = 0) ∧
      (∀ x, y.capture = some x → n 23 1 = 1 ∧ n 24 4 = x.seq % 2 ^ 32 ∧ n 28 1 = x.timecode.hh % 2 ^ 8 ∧
        n 29 1 = x.timecode.mm % 2 ^ 8 ∧ n 30 1 = x.timecode.ss % 2 ^ 8 ∧ n 31 1 = x.timecode.ff % 2 ^ 8 ∧
        n 32 1 = x.timecode.source.toByte.toNat ∧ OptionalAt b 33 2 (x.cue.map BitVec.toNat)) ∧
      n 36 1 = (if y.lost then 1 else 0) ∧
      n 37 1 = (match y.result with
        | .none => 0 | .pending => 1 | .taken => 2 | .merged => 3 | .widened => 4
        | .clipped => 5 | .refused _ => 6) ∧
      (∀ c, y.result = .refused c → n 38 1 = c.toByte.toNat) ∧ (y.detail = .none → n 39 2 = 0) ∧
      (∀ id, y.detail = .record id → n 39 1 = 1 ∧ n 40 1 = id % 2 ^ 8) ∧
      (∀ c, y.detail = .code c → n 39 1 = 2 ∧ n 40 1 = c.toByte.toNat) ∧
      (∀ m, y.detail = .outlets m → n 39 1 = 3 ∧ n 40 1 = m.toNat) ∧
      n 41 1 = (s.watch.queue.filter (fun e => decide (e.slot = k))).length % 2 ^ 8) ∧
  (∀ (s : State) (c : ClipId),
    let b := s.clipReport c
    let n := field b
    let k := s.clip c
    b.length = 24 ∧ n 0 1 = k.state.toByte.toNat ∧ OptionalAt b 1 4 k.sourceFirst ∧ n 6 1 = k.count % 2 ^ 8 ∧
      n 7 1 = k.copied % 2 ^ 8 ∧ n 8 2 = (k.frames.map (fun x => x.pages.length)).sum % 2 ^ 16 ∧
      n 10 1 = k.users.toNat ∧ (s.bank.engine = .idle → n 11 7 = 0) ∧
      (∀ z m d, s.bank.engine = .copying z m d →
        n 11 1 = 1 ∧ n 12 1 = z.val ∧ n 13 4 = m % 2 ^ 32 ∧ n 17 1 = d % 2 ^ 8) ∧
      (s.bank.lastGrab = .none → n 18 4 = 0) ∧
      (∀ z, s.bank.lastGrab = .done z → n 18 1 = 1 ∧ n 19 1 = z.val ∧ n 20 2 = 0) ∧
      (∀ z cause m, s.bank.lastGrab = .aborted z cause m →
        n 18 1 = 2 ∧ n 19 1 = z.val ∧ n 20 1 = cause.toByte.toNat ∧ n 21 1 = m % 2 ^ 8) ∧
      n 22 2 = s.freeFillerRecords) ∧
  (∀ (x : FillerFrame) (position : Nat),
    let b := x.bytes position
    let n := field b
    b.length = 9 ∧ n 0 1 = position % 2 ^ 8 ∧ n 1 4 = x.source % 2 ^ 32 ∧ n 5 1 = x.pages.length % 2 ^ 8 ∧
      n 6 2 = x.lanes.toNat ∧ n 8 1 = x.condition.toByte.toNat) ∧
  (∀ (s : State) (p : PanelId),
    let last := fun (b : List Byte) (i : Nat) (x : Option LastResult) =>
      (x = none → field b i 4 = 0) ∧
      ∀ y, x = some y → field b i 1 = y.button.toByte.toNat ∧ field b (i + 1) 1 = y.message.toByte.toNat ∧
        (∀ id, y.result = .taken id → field b (i + 2) 1 = 1 ∧ field b (i + 3) 1 = id % 2 ^ 8) ∧
        (∀ id, y.result = .merged id → field b (i + 2) 1 = 2 ∧ field b (i + 3) 1 = id % 2 ^ 8) ∧
        (∀ id, y.result = .widened id → field b (i + 2) 1 = 3 ∧ field b (i + 3) 1 = id % 2 ^ 8) ∧
        (y.result = .ignored → field b (i + 2) 1 = 4 ∧ field b (i + 3) 1 = 0) ∧
        (∀ c, y.result = .refused c → field b (i + 2) 1 = 5 ∧ field b (i + 3) 1 = c.toByte.toNat)
    let x := s.panel p
    let c := s.panelCfg p
    let b := s.panelReport p
    let n := field b
    let a := s.tally p
    let m := field a
    b.length = 35 ∧ n 0 1 = x.standing.toByte.toNat ∧ n 1 1 = x.errorCount % 2 ^ 8 ∧
      n 2 1 = (if x.muteLamp then 1 else 0) ∧ n 3 1 = (if x.coverLamp then 1 else 0) ∧ last b 4 x.lastResult ∧
      n 8 1 = x.packetsTaken.toNat ∧ n 9 2 = c.span % 2 ^ 16 ∧ n 11 2 = c.lanes.toNat ∧ n 13 1 = c.buttons.toNat ∧
      n 14 1 = c.preroll % 2 ^ 8 ∧ n 15 4 = x.good.toNat ∧ n 19 4 = x.badCheck.toNat ∧ n 23 4 = x.badLength.toNat ∧
      n 27 4 = x.badGap.toNat ∧ n 31 4 = x.discarded.toNat ∧
      a.length = 21 ∧ m 0 1 = 0x81 ∧
      (∀ o : OutletId,
        let u := s.outlet o
        let d := s.ingest.mark - u.readMark
        m (1 + 3 * o.val) 1 = u.state.toByte.toNat +
          (if u.exposure = true ∧ d < (s.outletCfg o).floor then 8 else 0) + (if u.sink = .lost then 16 else 0) ∧
        m (2 + 3 * o.val) 2 = (if s.isRunning o then d else 0) % 2 ^ 16) ∧
      m 13 1 = x.standing.toByte.toNat ∧
      m 14 1 = (if x.muteLamp then 1 else 0) + (if x.coverLamp then 2 else 0) +
        (if ∀ o : OutletId, s.isRunning o = true → c.span ≤ s.ingest.mark - (s.outlet o).readMark then 4 else 0) ∧
      last a 15 x.lastResult ∧ m 19 1 = x.packetsTaken.toNat ∧ m 20 1 = 0)

/-! ## Settings -/

/-- The words of a profile: 49 of them, whose sum is 0, from which lawful settings are read back whole. -/
def Obligations.ProfileReadsBack : Prop :=
  ∀ c : Settings, c.Lawful →
    c.profile.length = 49 ∧ wordSum c.profile = 0 ∧ Settings.read c.profile = some c

/-- The end of a load: the settings become those of a sound profile or stay as they are, with the cause kept; ingest
and the outlets marked for autostart start. While Ready none is under way. (Rests on log entries 3, 4, 8, 29, the
model's choices.) -/
def Obligations.LoadEnds : Prop :=
  ∀ (s : State) (readable : Bool),
    (s.settings.ready = false → ∃ t, exec (.loadEnd readable) s = .next t ∧
      t.settings = { s.settings with
        current := (loadOf readable s.settings.flash).2.getD s.settings.current, ready := true
        lastLoad := some (loadOf readable s.settings.flash).1 } ∧
      (readable = false → t.settings.current = s.settings.current ∧ t.settings.lastLoad = some .read) ∧
      (readable = true → s.settings.flash = .unsound →
        t.settings.current = s.settings.current ∧ t.settings.lastLoad = some .check) ∧
      (∀ c : Settings, readable = true → c.Lawful → s.settings.flash = .words c.profile →
        t.settings.current = c ∧ t.settings.lastLoad = some .good) ∧
      (∀ o : OutletId, (t.outlet o).state =
        if (t.outletCfg o).autostart then startState .hold (t.outletCfg o).floor (t.outletCfg o).target
        else (s.outlet o).state) ∧
      t.ingest.state = (if t.settings.current.ingestAuto && s.mayStart
        then stateFor s.ingest.source s.ingest.reference else s.ingest.state) ∧
      t.watch = s.watch ∧ t.bank = s.bank ∧ t.pending = s.pending ∧ LinkKept s t) ∧
    (s.settings.ready = true → ∃ t, Completes (.loadEnd readable) s t [] [])

/-- SETTINGS SAVE takes its fields and begins to write the snapshot of the current settings; the end of the write
puts the snapshot in the flash with SaveDone, or leaves the flash unsound with SaveFailed; SETTINGS DEFAULT puts the
factory values in place when ingest is Stopped and every outlet Off, and the store releases what a retention depth of
300 lets it; the records are as they were where no frame goes and none has reached the hold limit of 150. (Rests on log
entries 1, 3, 4, 8, 20, 29, 40, 45, the model's choices.) -/
def Obligations.SavesAndDefaults : Prop :=
  (∀ (s : State) (tag : Byte), tag ≠ 0 → s.TakesRequests →
    (s.settings.save = .idle → ∃ t,
      Answered (.settingsSave tag none) s t [.settings] []
        (replyOf (.settingsSave none) tag .done (u16 (checkWord s.settings.current.words).toNat)) ∧
      t.settings = { s.settings with save := .writing s.settings.current.profile }) ∧
    (∀ (f : SaveFields) (auto : Bool), s.settings.save = .idle → yesNo f.ingestAuto = some auto →
      25 ≤ f.holdLimit.toNat → f.holdLimit.toNat ≤ 600 → ∃ t, exec (.settingsSave tag (some f)) s = .next t ∧
        KeptBut [.settings, .cuts, .panels] s t ∧
        t.settings.current = { s.settings.current.markOutlets (outletsOf f.outletAuto) with
          holdLimit := f.holdLimit.toNat, floorKey := f.floorKey, ingestAuto := auto } ∧
        t.settings.save = .writing t.settings.current.profile ∧ t.settings.flash = s.settings.flash ∧
        t.link.reply = some (replyOf (.settingsSave (some f)) tag .done
          (u16 (checkWord t.settings.current.words).toNat)) ∧ LinkKept s t) ∧
    (∀ f : SaveFields, s.settings.save = .idle → (f.holdLimit.toNat < 25 ∨ 600 < f.holdLimit.toNat) →
      ∃ t, Answered (.settingsSave tag (some f)) s t [] []
        (replyOf (.settingsSave (some f)) tag .badValue [])) ∧
    (∀ (ws : List Half) (f : Option SaveFields), s.settings.save = .writing ws →
      ∃ t, Answered (.settingsSave tag f) s t [] [] (replyOf (.settingsSave f) tag .busy [])) ∧
    (s.quiet = true → ∃ t, exec (.settingsDefault tag) s = .next t ∧
      KeptBut [.settings, .ingest, .store, .cuts, .panels] s t ∧
      t.settings = { s.settings with current := Settings.factory } ∧
      t.ingest = { s.ingest with tracker := none } ∧
      t.store = { s.store with held := s.store.held.dropWhile (Frame.releasable s.ingest.mark 300) } ∧
      (t.store.held.length = s.store.held.length → (∀ r ∈ s.cuts.records, r.limitReached 150 s.edge = false) →
        t.cuts = s.cuts ∧ t.panels = s.panels) ∧
      t.link.reply = some (replyOf .settingsDefault tag .done []) ∧ LinkKept s t) ∧
    (s.quiet = false → ∃ t,
      Answered (.settingsDefault tag) s t [] [] (replyOf .settingsDefault tag .stateWrong []))) ∧
  (∀ (s : State) (ws : List Half), s.settings.save = .writing ws →
    (∃ t, Completes (.saveWriteEnd true) s t [.settings] [.saveDone (ws.getLast?.getD 0)] ∧
      t.settings = { s.settings with save := .idle, flash := .words ws }) ∧
    (∃ t, Completes (.saveWriteEnd false) s t [.settings] [.saveFailed] ∧
      t.settings = { s.settings with save := .idle, flash := .unsound })) ∧
  (∀ (s : State) (ok : Bool), s.settings.save = .idle → ∃ t, Completes (.saveWriteEnd ok) s t [] [])

/-! ## Outlets: the requests -/

/-- OUTLET START: an Off outlet takes the N, the state and the exposure that its mode names, joins the owing sets,
and has its outcomes computed; any other outlet is refused StateWrong, and a History start too far back BadValue.
(Rests on log entries 1, 3, 4, 17, 23, 36, 46, the model's choices.) -/
def Obligations.OutletStarts : Prop :=
  ∀ (s : State) (tag outlet mode : Byte) (k : Half) (o : OutletId) (m : StartMode) (new : OutletState),
    tag ≠ 0 → s.TakesRequests → outlet.toNat = o.val →
    ((mode = 0 ∧ m = .hold ∧
        ((0 < (s.outletCfg o).floor ∧ new = .holding) ∨
          ((s.outletCfg o).floor = 0 ∧ 0 < (s.outletCfg o).target ∧ new = .rebuilding) ∨
          ((s.outletCfg o).floor = 0 ∧ (s.outletCfg o).target = 0 ∧ new = .steady))) ∨
      (mode = 1 ∧ m = .stretch ∧ new = .rebuilding) ∨ (mode = 2 ∧ m = .history ∧ new = .holding)) →
    let n := if m = .history then s.ingest.mark - k.toNat else s.ingest.mark
    ((s.outlet o).state = .off → (m = .history → k.toNat ≤ s.store.held.length ∧ k.toNat ≤ 1920) →
      ∃ t, Answered (.outletStart tag outlet mode k) s t [.outlets, .store, .cuts]
          (.outletState o .off new (s.ingest.mark - n) ::
            if m = .stretch then [.exposed o (s.outletCfg o).floor] else [])
          (replyOf (.outletStart outlet mode k) tag .done ([new.toByte] ++ markBytes n)) ∧
        t.outlets = s.outlets.set o.val { s.outlet o with
          state := new, readMark := n, spacingCount := 0, deferred := 0, exposure := decide (m = .stretch)
          inFlight := .none, lastEmission := .none, lastProgram := none, clipPosition := 0, episode := false } o.isLt ∧
        t.store = { s.store with held := s.store.held.map (fun f =>
          if n ≤ f.seq then { f with owing := insertBit f.owing o.val } else f) } ∧
        t.cuts = { s.cuts with records := s.cuts.records.map (fun r =>
          if r.outcomes[o] = .idle then { r with outcomes := r.outcomes.set o.val (t.outcomeFor r o) o.isLt }
          else r) }) ∧
    ((s.outlet o).state ≠ .off →
      Refused (.outletStart tag outlet mode k) s (replyOf (.outletStart outlet mode k) tag .stateWrong [])) ∧
    ((s.outlet o).state = .off → m = .history → (s.store.held.length < k.toNat ∨ 1920 < k.toNat) →
      Refused (.outletStart tag outlet mode k) s (replyOf (.outletStart outlet mode k) tag .badValue []))

/-- OUTLET STOP: a running outlet leaves every owing set, its Ahead and Inside outcomes become Stopped, its counts
and flags are cleared, the store looks for frames to release, and it becomes Stopping, or Off when its sink is Lost;
any other outlet is refused StateWrong. (Rests on log entries 1, 3, 4, 17, the model's choices.) -/
def Obligations.OutletStops : Prop :=
  ∀ (s : State) (tag outlet : Byte) (o : OutletId), tag ≠ 0 → s.TakesRequests → outlet.toNat = o.val →
    let new : OutletState := if (s.outlet o).sink = .lost then .off else .stopping
    (s.isRunning o = true → ∃ t closed,
      Answered (.outletStop tag outlet) s t [.outlets, .store, .cuts]
        (closed ++ [.outletState o (s.outlet o).state new 0]) (replyOf (.outletStop outlet) tag .done []) ∧
      t.outlets = s.outlets.set o.val { s.outlet o with
        state := new, spacingCount := 0, deferred := 0, exposure := false, unlockOpen := false, episode := false }
        o.isLt ∧
      t.store = { s.store with
        held := (s.store.held.map (fun f => { f with owing := removeBit f.owing o.val })).dropWhile
          (Frame.releasable s.ingest.mark s.settings.current.retention) } ∧
      (∀ r ∈ t.cuts.records, r.outcomes[o] ≠ .ahead ∧ r.outcomes[o] ≠ .inside) ∧
      (∀ n ∈ closed, n.body.head? = some 0xcc) ∧
      (t.store.held.length = s.store.held.length → closed = [] ∧
        t.cuts = { s.cuts with records := s.cuts.records.map (fun r =>
          if r.outcomes[o] = .ahead ∨ r.outcomes[o] = .inside
          then { r with outcomes := r.outcomes.set o.val .stopped o.isLt } else r) })) ∧
    (s.isRunning o = false →
      Refused (.outletStop tag outlet) s (replyOf (.outletStop outlet) tag .stateWrong []))

/-- OUTLET TARGET and OUTLET SHAPE: a value in range is taken in every state, with the deferred count of a running
outlet brought down to the owed amount, and the spacing count below the spacing; one out of range is refused. OUTLET
FLOOR: the four cases of its table, each of which closes floor unlock and answers with the floor and target as they
then stand. (Rests on log entries 1, 3, 4, 21, the model's choices.) -/
def Obligations.TargetShapeAndFloor : Prop :=
  (∀ (s : State) (tag outlet : Byte) (o : OutletId), tag ≠ 0 → s.TakesRequests → outlet.toNat = o.val →
    (∀ target : Half, (s.outletCfg o).floor ≤ target.toNat → target.toNat ≤ 1920 → ∃ t,
      Answered (.outletTarget tag outlet target) s t [.settings, .outlets] []
        (replyOf (.outletTarget outlet target) tag .done (u16 target.toNat)) ∧
      t.settings = { s.settings with current := { s.settings.current with
        outlets := s.settings.current.outlets.set o.val { s.outletCfg o with target := target.toNat } o.isLt } } ∧
      t.outlets = if s.isRunning o
        then s.outlets.set o.val { s.outlet o with
          deferred := min (s.outlet o).deferred (gap target.toNat (s.depth o)) } o.isLt
        else s.outlets) ∧
    (∀ target : Half, (target.toNat < (s.outletCfg o).floor ∨ 1920 < target.toNat) →
      Refused (.outletTarget tag outlet target) s (replyOf (.outletTarget outlet target) tag .badValue [])) ∧
    (∀ spacing tolerance : Byte, 4 ≤ spacing.toNat → spacing.toNat ≤ 64 → 1 ≤ tolerance.toNat →
      tolerance.toNat ≤ 8 → ∃ t,
        let count := if spacing.toNat ≤ (s.outlet o).spacingCount then spacing.toNat - 1 else (s.outlet o).spacingCount
        Answered (.outletShape tag outlet spacing tolerance) s t [.settings, .outlets] []
          (replyOf (.outletShape outlet spacing tolerance) tag .done
            ([spacing, tolerance] ++ u8 count ++ u8 (s.outlet o).deferred)) ∧
        t.settings = { s.settings with current := { s.settings.current with
          outlets := s.settings.current.outlets.set o.val
            { s.outletCfg o with spacing := spacing.toNat, tolerance := tolerance.toNat } o.isLt } } ∧
        t.outlets = s.outlets.set o.val { s.outlet o with spacingCount := count } o.isLt) ∧
    (∀ spacing tolerance : Byte,
      (spacing.toNat < 4 ∨ 64 < spacing.toNat ∨ tolerance.toNat < 1 ∨ 8 < tolerance.toNat) →
        Refused (.outletShape tag outlet spacing tolerance) s
          (replyOf (.outletShape outlet spacing tolerance) tag .badValue []))) ∧
  ∀ (s : State) (tag outlet : Byte) (floor : Half) (o : OutletId), tag ≠ 0 → s.TakesRequests →
    outlet.toNat = o.val →
    let c := s.outletCfg o
    let shut := { s.outlet o with unlockOpen := false }
    let set := fun c' : OutletSettings => { s.settings with current := { s.settings.current with
      outlets := s.settings.current.outlets.set o.val c' o.isLt } }
    let reply := fun (code : ResultCode) (floor' target' : Nat) =>
      replyOf (.outletFloor outlet floor) tag code (u16 floor' ++ u16 target')
    (1920 < floor.toNat → ∃ t,
      Answered (.outletFloor tag outlet floor) s t [.outlets] [] (reply .badValue c.floor c.target) ∧
      t.outlets = s.outlets.set o.val shut o.isLt) ∧
    (floor.toNat ≤ 1920 → floor.toNat < c.floor → (s.outlet o).unlockOpen = false → ∃ t,
      Answered (.outletFloor tag outlet floor) s t [.outlets] [] (reply .locked c.floor c.target) ∧
      t.outlets = s.outlets.set o.val shut o.isLt) ∧
    (floor.toNat ≤ 1920 → (c.floor ≤ floor.toNat ∨ (s.outlet o).unlockOpen = true) → floor.toNat ≤ c.target → ∃ t,
      Answered (.outletFloor tag outlet floor) s t [.settings, .outlets] [] (reply .done floor.toNat c.target) ∧
      t.settings = set { c with floor := floor.toNat } ∧ t.outlets = s.outlets.set o.val shut o.isLt) ∧
    (floor.toNat ≤ 1920 → (c.floor ≤ floor.toNat ∨ (s.outlet o).unlockOpen = true) → c.target < floor.toNat → ∃ t,
      Answered (.outletFloor tag outlet floor) s t [.settings, .outlets] [] (reply .done floor.toNat floor.toNat) ∧
      t.settings = set { c with floor := floor.toNat, target := floor.toNat } ∧
      t.outlets = s.outlets.set o.val { shut with
        deferred := if s.isRunning o then min shut.deferred (gap floor.toNat (s.depth o)) else shut.deferred } o.isLt)

/-- FLOOR UNLOCK, OUTLET CLIP and OUTLET READ, in every state of the outlet: the right key opens floor unlock and a
wrong one changes nothing; the clip is set and the clip position becomes 0, the frame in flight and its clip's users
staying; the record is read with the counters as they stood, which become 0 when the host asks so. (Rests on log
entries 1, 3, 4, 22, the model's choices.) -/
def Obligations.UnlockClipAndRead : Prop :=
  ∀ (s : State) (tag outlet : Byte) (o : OutletId), tag ≠ 0 → s.TakesRequests → outlet.toNat = o.val →
    (∃ t, Answered (.floorUnlock tag outlet s.settings.current.floorKey) s t [.outlets] []
        (replyOf (.floorUnlock outlet s.settings.current.floorKey) tag .done []) ∧
      t.outlets = s.outlets.set o.val { s.outlet o with unlockOpen := true } o.isLt) ∧
    (∀ key : Half, key ≠ s.settings.current.floorKey →
      Refused (.floorUnlock tag outlet key) s (replyOf (.floorUnlock outlet key) tag .badKey [])) ∧
    (∀ (clip : Byte) (c : ClipId), clip.toNat = c.val → ∃ t,
      Answered (.outletClip tag outlet clip) s t [.settings, .outlets] []
        (replyOf (.outletClip outlet clip) tag .done []) ∧
      t.settings = { s.settings with current := { s.settings.current with
        outlets := s.settings.current.outlets.set o.val { s.outletCfg o with clip := c } o.isLt } } ∧
      t.outlets = s.outlets.set o.val { s.outlet o with clipPosition := 0 } o.isLt) ∧
    (∃ t, Answered (.outletRead tag outlet 0) s t [] []
      (replyOf (.outletRead outlet 0) tag .done (s.outletReport o))) ∧
    (∃ t, Answered (.outletRead tag outlet 1) s t [.outlets] []
        (replyOf (.outletRead outlet 1) tag .done (s.outletReport o)) ∧
      t.outlets = s.outlets.set o.val { s.outlet o with counters := OutletCounters.zero } o.isLt)

/-! ## Outlets: the events -/

/-- Which frames a record covers, which record governs a frame, and which lanes are muted. -/
def Obligations.CoverAndGovern : Prop :=
  (∀ (edge : Option Nat) (r : CutRecord) (n : Nat), r.covers edge n = true ↔
    r.first ≤ n ∧ ((∃ l, r.last = some l ∧ n ≤ l) ∨
      (r.last = none ∧ ((∃ e, edge = some e ∧ n ≤ e) ∨ ∃ l, r.leastLast = some l ∧ n ≤ l)))) ∧
  (∀ (s : State) (n : Nat),
    (s.dropGoverns n = true ↔ ∃ r ∈ s.cuts.records, r.kind = .drop ∧ r.covers s.edge n = true) ∧
    (s.coverGoverns n = true ↔ s.dropGoverns n = false ∧
      ∃ r ∈ s.cuts.records, r.kind = .cover ∧ r.covers s.edge n = true) ∧
    (∀ l : Lane, member (s.mutedLanes n) l.val = true ↔
      ∃ r ∈ s.cuts.records, r.kind = .mute ∧ r.covers s.edge n = true ∧ member r.lanes l.val = true))

/-- The end of the frame in flight: the record is cleared of it and keeps its kind; a program frame or a repeat ends
at the store, which looks for frames to release; a filler frame ends its use of its clip; the quarter stands. (Rests on log
entries 33, 46, the model's choices.) -/
def Obligations.FlightEnds : Prop :=
  ∀ (s : State) (o : OutletId),
    let u := s.outlet o
    let t := s.endFlight o
    t.outlets = s.outlets.set o.val { u with
      inFlight := .none, muteLanes := 0, dataLost := false
      lastEmission := match u.inFlight with
        | .none => u.lastEmission
        | .program _ => .program
        | .again _ => .program
        | .filler _ _ => .filler
        | .black => .filler } o.isLt ∧
    (∀ n, (u.inFlight = .program n ∨ u.inFlight = .again n) → KeptBut [.outlets, .store, .cuts] s t ∧
      t.store = { s.store with
        held := s.released (s.heldWith (· == n) (fun f => { f with emitting := f.emitting - 1 })) }) ∧
    (∀ c p, u.inFlight = .filler c p → KeptBut [.outlets, .bank] s t ∧ t.link = s.link ∧
      let k := { s.clip c with users := removeBit (s.clip c).users o.val }
      t.bank = { s.bank with clips := s.bank.clips.set c.val k c.isLt }) ∧
    ((u.inFlight = .none ∨ u.inFlight = .black) → KeptBut [.outlets] s t ∧ t.link = s.link)

/-- A drop run passes exactly the Held frames from N on that a Drop governs, up to the first that is not Held or not
governed, counting each in skipped. -/
def Obligations.DropRunPasses : Prop :=
  ∀ (s : State) (o : OutletId), s.RingLaw → s.ClaimLaw → s.isRunning o = true →
    let t := s.dropRun o
    let n := (s.outlet o).readMark
    ∃ k, (∀ i, i < k → s.isHeld (n + i) = true ∧ s.dropGoverns (n + i) = true) ∧
      ¬ (s.isHeld (n + k) = true ∧ s.dropGoverns (n + k) = true) ∧
      t.outlets = s.outlets.set o.val ({ s.outlet o with readMark := n + k }.counting
        (fun c => { c with skipped := c.skipped + BitVec.ofNat 32 k })) o.isLt ∧
      t.store = { s.store with
        held := if k = 0 then s.store.held else s.released (s.heldWith (fun i => decide (n ≤ i ∧ i < n + k))
          (fun f => { f with owing := removeBit f.owing o.val })) } ∧
      KeptBut [.outlets, .store, .cuts] s t

/-- The choice of state of a running outlet: exposure permitted is cleared at the floor, the first row that holds gives
the state, a change is reported, and entering Steady or Holding clears both counts. -/
def Obligations.StateChoice : Prop :=
  ∀ (s : State) (o : OutletId) (old new : OutletState), (s.outlet o).state = old →
    let c := s.outletCfg o
    let d := s.depth o
    let e := (s.outlet o).exposure && decide (d < c.floor)
    ((d < c.floor ∧ e = false ∧ old.running = true ∧ new = .holding) ∨
      (¬ (d < c.floor ∧ e = false) ∧
        ((old = .holding ∧ d < c.target ∧ new = .rebuilding) ∨ (old = .holding ∧ c.target ≤ d ∧ new = .steady) ∨
          (old = .rebuilding ∧ c.target ≤ d ∧ new = .steady) ∨
          (old = .rebuilding ∧ d < c.target ∧ new = .rebuilding) ∨
          (old = .steady ∧ d + c.tolerance < c.target ∧ new = .rebuilding) ∨
          (old = .steady ∧ c.target + c.tolerance < d ∧ new = .squeezing) ∨
          (old = .steady ∧ c.target ≤ d + c.tolerance ∧ d ≤ c.target + c.tolerance ∧ new = .steady) ∨
          (old = .squeezing ∧ d ≤ c.target ∧ new = .steady) ∨
          (old = .squeezing ∧ c.target < d ∧ new = .squeezing)))) →
    let t := s.stateChoice o
    let clears := new ≠ old ∧ (new = .holding ∨ new = .steady)
    t.outlets = s.outlets.set o.val { s.outlet o with
      state := new, exposure := e
      spacingCount := if clears then 0 else (s.outlet o).spacingCount
      deferred := if clears then 0 else (s.outlet o).deferred
      episode := if new ≠ old ∧ new = .holding then false else (s.outlet o).episode } o.isLt ∧
    t.link = (if new = old then s.link else s.link.post (.outletState o old new d)) ∧ KeptBut [.outlets] s t

/-- The program choice where no drop run is to be made: an underrun at I, a covered frame, or a frame taken; each
with what it does to the outlet, the store and the clip. (Rests on log entry 33, the model's choice.) -/
def Obligations.ProgramChoiceRows : Prop :=
  ∀ (s : State) (o : OutletId),
    let u := s.outlet o
    let n := u.readMark
    let c := (s.outletCfg o).clip
    let t := s.programChoice o
    ¬ (s.isHeld n = true ∧ s.dropGoverns n = true) →
    (s.ingest.mark ≤ n → KeptBut [.outlets, .bank] s t ∧ t.bank = s.filledBank o ∧
      t.outlets = s.outlets.set o.val ({ u.filled c (s.clip c) with episode := true }.counting
        (fun k => { k with underruns := k.underruns + 1 })) o.isLt ∧
      t.link = if u.episode then s.link else s.link.post (.underrun o n)) ∧
    (n < s.ingest.mark → s.coverGoverns n = true →
      KeptBut [.outlets, .store, .cuts, .bank] s t ∧ t.bank = s.filledBank o ∧
      t.outlets = s.outlets.set o.val ({ u.filled c (s.clip c) with readMark := n + 1 }.counting
        (fun k => { k with covered := k.covered + 1 })) o.isLt ∧
      t.store = { s.store with
        held := s.released (s.heldWith (· == n) (fun f => { f with owing := removeBit f.owing o.val })) }) ∧
    (n < s.ingest.mark → s.coverGoverns n = false → KeptBut [.outlets, .store, .cuts] s t ∧ t.link = s.link ∧
      t.outlets = s.outlets.set o.val ({ u with
        readMark := n + 1, lastProgram := some n, episode := false, inFlight := .program n, quarter := 0
        dataLost := false }.counting (fun k => { k with emitted := k.emitted + 1 })) o.isLt ∧
      t.store = { s.store with
        held := s.heldWith (· == n) (fun f =>
          { f with owing := removeBit f.owing o.val, emitting := f.emitting + 1 }) })

/-- What a running outlet emits, by its state: filler, the program choice, or the rows of the decision table after the
due step, which brings the deferred count within the owed amount where an adjustment falls due. (Rests on log entry 47,
the model's choice.) -/
def Obligations.DecisionTable : Prop :=
  ∀ (s : State) (o : OutletId),
    let u := s.outlet o
    let c := s.outletCfg o
    let due := u.spacingCount + 1 = c.spacing
    let d := if due then min (min (u.deferred + 1) 8) (gap c.target (s.depth o)) else u.deferred
    let v := s.modOutlet o (fun u =>
      { u with spacingCount := if due then 0 else u.spacingCount + 1, deferred := d })
    let pause := ∃ f m, s.heldFrame u.readMark = some f ∧ f.pause = some m ∧ m.isPause = true
    (u.state = .holding → s.emitPeriod o = s.fillerPeriod o) ∧
    (u.state = .steady → s.emitPeriod o = s.programChoice o) ∧
    (u.state = .rebuilding →
      (s.isHeld u.readMark = false → s.emitPeriod o = v.underrun o) ∧
      (s.isHeld u.readMark = true → 0 < d → pause → s.emitPeriod o = v.pauseInsertion o) ∧
      (s.isHeld u.readMark = true → ¬ pause → d = 8 → s.emitPeriod o = v.forcedInsertion o) ∧
      (s.isHeld u.readMark = true → (d = 0 ∨ ¬ pause) → d ≠ 8 → s.emitPeriod o = v.programChoice o)) ∧
    (u.state = .squeezing →
      (0 < d → pause → s.emitPeriod o = v.removal o) ∧
      (¬ pause → d = 8 → s.emitPeriod o = (v.removal o).countForced o) ∧
      ((d = 0 ∨ ¬ pause) → d ≠ 8 → s.emitPeriod o = v.programChoice o))

/-- An insertion leaves N where it stands: a pause insertion airs frame N as a repeat, or filler when it is covered;
a forced one repeats the last program frame, or airs black when that frame is governed or gone, or goes on with
filler. A removal passes frame N and makes the program choice from the frame after it. (Rests on log entries 26, 33,
48, the model's choices.) -/
def Obligations.Adjustments : Prop :=
  ∀ (s : State) (o : OutletId),
    let u := s.outlet o
    let c := (s.outletCfg o).clip
    let inserted := fun x : Outlet => { x with deferred := u.deferred - 1 }.counting
      (fun k => { k with inserted := k.inserted + 1 })
    let forced := fun x : Outlet => (inserted x).counting (fun k => { k with forced := k.forced + 1 })
    let again := fun n : Nat => { u with inFlight := .again n, quarter := 0, dataLost := false }
    let black := { u with inFlight := .black, quarter := 0, dataLost := false }.counting
      (fun k => { k with filler := k.filler + 1 })
    let raised := fun n : Nat => { s.store with
      held := s.heldWith (· == n) (fun f => { f with emitting := f.emitting + 1 }) }
    let t := s.pauseInsertion o
    let r := s.forcedInsertion o
    (s.coverGoverns u.readMark = true → KeptBut [.outlets, .bank] s t ∧ t.link = s.link ∧ t.bank = s.filledBank o ∧
      t.outlets = s.outlets.set o.val (inserted (u.filled c (s.clip c))) o.isLt) ∧
    (s.coverGoverns u.readMark = false → KeptBut [.outlets, .store] s t ∧ t.link = s.link ∧
      t.store = raised u.readMark ∧ t.outlets = s.outlets.set o.val (inserted (again u.readMark)) o.isLt) ∧
    (u.lastEmission = .filler → KeptBut [.outlets, .bank] s r ∧ r.link = s.link ∧ r.bank = s.filledBank o ∧
      r.outlets = s.outlets.set o.val (forced (u.filled c (s.clip c))) o.isLt) ∧
    (∀ n, u.lastEmission = .program → u.lastProgram = some n →
      ((s.dropGoverns n = true ∨ s.coverGoverns n = true ∨ s.isHeld n = false) →
        KeptBut [.outlets] s r ∧ r.link = s.link ∧ r.outlets = s.outlets.set o.val (forced black) o.isLt) ∧
      (s.dropGoverns n = false → s.coverGoverns n = false → s.isHeld n = true →
        KeptBut [.outlets, .store] s r ∧ r.link = s.link ∧ r.store = raised n ∧
        r.outlets = s.outlets.set o.val (forced (again n)) o.isLt)) ∧
    let x := s.removal o
    let p := s.passFrame o
    p.outlets = s.outlets.set o.val { u with readMark := u.readMark + 1 } o.isLt ∧
    p.store = { s.store with
      held := s.released (s.heldWith (· == u.readMark) (fun f => { f with owing := removeBit f.owing o.val })) } ∧
    x.outlets = (p.programChoice o).outlets.set o.val
      ({ (p.programChoice o).outlet o with deferred := ((p.programChoice o).outlet o).deferred - 1 }.counting
        (fun k => { k with removed := k.removed + 1 })) o.isLt ∧
    x.store = (p.programChoice o).store ∧ x.bank = (p.programChoice o).bank ∧ x.link = (p.programChoice o).link ∧
    KeptBut [.outlets, .store, .cuts, .bank] s x

/-- A period start: none while the sink is Lost or the outlet Off; a Stopping outlet becomes Off; a running one ends
its frame in flight, makes its drop run, chooses its state and what it emits, and settles the mute lanes of quarter
0. (Rests on log entries 3, 4, 8, 17, 46, the model's choices.) -/
def Obligations.PeriodStarts : Prop :=
  ∀ (s : State) (o : OutletId),
    (((s.outlet o).sink = .lost ∨ (s.outlet o).state = .off) → ∃ t, Completes (.periodStart o) s t [] []) ∧
    ((s.outlet o).sink = .present → (s.outlet o).state = .stopping → ∃ t,
      exec (.periodStart o) s = .next t ∧
      t.outlets = s.outlets.set o.val { (s.endFlight o).outlet o with state := .off } o.isLt ∧
      t.store = (s.endFlight o).store ∧ t.cuts = (s.endFlight o).cuts ∧ t.bank = (s.endFlight o).bank ∧
      t.link = Link.event (fun l => ((s.modLink (fun _ => l)).endFlight o).link.post
        (.outletState o .stopping .off 0)) s.link ∧
      KeptBut [.outlets, .store, .cuts, .bank] s t) ∧
    ((s.outlet o).sink = .present → s.isRunning o = true →
      exec (.periodStart o) s = .next
        (((((s.transmit.endFlight o).dropRun o).stateChoice o).emitPeriod o).settleMute o).transmit)

/-- A period of a Steady outlet within its band that finds frame N neither dropped nor covered airs it: N and emitted
rise by 1, the frame is in flight and owed no longer, and the Mute records that cover it are settled. (Rests on log
entries 3, 4, 33, the model's choices.) -/
def Obligations.SteadyTakes : Prop :=
  ∀ (s : State) (o : OutletId),
    let p := s.endFlight o
    let u := p.outlet o
    let n := u.readMark
    let c := s.outletCfg o
    u.sink = .present → u.state = .steady → n < s.ingest.mark → p.dropGoverns n = false → p.coverGoverns n = false →
    c.floor ≤ p.depth o → c.target ≤ p.depth o + c.tolerance → p.depth o ≤ c.target + c.tolerance →
      ∃ t, exec (.periodStart o) s = .next t ∧
        t.outlets = s.outlets.set o.val ({ u with
          exposure := false, readMark := n + 1, lastProgram := some n, episode := false, inFlight := .program n
          quarter := 0, dataLost := false, muteLanes := p.mutedLanes n }.counting (fun k => { k with
            emitted := k.emitted + 1
            mutedQuarters := if p.mutedLanes n = 0 then k.mutedQuarters else k.mutedQuarters + 1 })) o.isLt ∧
        t.store = { p.store with
          held := p.heldWith (· == n) (fun f =>
            { f with owing := removeBit f.owing o.val, emitting := f.emitting + 1 }) } ∧
        t.bank = p.bank ∧ KeptBut [.outlets, .store, .cuts, .bank] s t ∧ LinkKept s t

/-- No outlet emits a program frame that a Drop or a Cover governs: whatever a period start puts in flight, taken or
repeated, is governed by neither. -/
def Obligations.GovernedFramesDoNotAir : Prop :=
  ∀ (s : State) (o : OutletId) (t : State) (n : Nat), s.RingLaw → s.ClaimLaw → (s.outlet o).sink = .present →
    s.isRunning o = true → exec (.periodStart o) s = .next t →
      ((t.outlet o).inFlight = .program n ∨ (t.outlet o).inFlight = .again n) →
        t.isHeld n = true ∧ t.dropGoverns n = false ∧ t.coverGoverns n = false

/-- A quarter boundary and the falling due of an adjustment: what each changes in its outlet, and when it has no
effect, as when the sink is Lost, and after its return until the next period start, when no frame is in flight. What the port carries in the quarter: the four runs of a list in order give it whole;
a program frame leaves with its captions, a repeat without, each muted lane as silence or no captions, a filler frame
unmuted, and lost data as black and silence. (Rests on log entries 3, 4, 8, 9, 13, 30, 33, the model's choices.) -/
def Obligations.QuartersAndDue : Prop :=
  ∀ (s : State) (o : OutletId),
    let u := s.outlet o
    let c := s.outletCfg o
    (∀ q : BitVec 2, q ≠ 0 → u.sink = .present → u.state ≠ .off → u.inFlight ≠ .none → ∃ t,
      let m := match flightFrame u.inFlight with | some n => s.mutedLanes n | none => 0
      Completes (.quarterBoundary o q) s t [.outlets] [] ∧
      t.outlets = s.outlets.set o.val ({ u with quarter := q, muteLanes := m }.counting (fun k =>
        { k with mutedQuarters := if m = 0 then k.mutedQuarters else k.mutedQuarters + 1 })) o.isLt) ∧
    (∀ q : BitVec 2, (u.sink = .lost ∨ u.state = .off ∨ u.inFlight = .none) →
      ∃ t, Completes (.quarterBoundary o q) s t [] []) ∧
    (u.sink = .present → u.inFlight ≠ .none → (u.state = .rebuilding ∨ u.state = .squeezing) →
      u.spacingCount + 1 = c.spacing → ∃ t,
      Completes (.adjustmentFallsDue o) s t [.outlets] [] ∧
      t.outlets = s.outlets.set o.val { u with
        spacingCount := 0, deferred := min (min (u.deferred + 1) 8) (gap c.target (s.depth o)) } o.isLt) ∧
    ((u.sink = .lost ∨ u.inFlight = .none ∨ ¬ (u.state = .rebuilding ∨ u.state = .squeezing) ∨ u.spacingCount + 1 ≠ c.spacing) →
      ∃ t, Completes (.adjustmentFallsDue o) s t [] []) ∧
    let q := u.quarter.toNat
    let silent : Vector (Option (List Byte)) 8 := Vector.replicate 8 none
    let picture := fun pages : List Page => if laneData 0 pages = [] then none else some (laneData 0 pages)
    let run := fun (l : Lane) (pages : List Page) =>
      let data := laneData l pages
      if data = [] then none else some (quarterRun q (samples Config.sampleWidth data.length data)).flatten
    let audio := fun (mute : LaneMask) (pages : List Page) => Vector.ofFn (fun track : Fin 8 =>
      if member mute (track.val + 1) then none else run (audioLane track) pages)
    (∀ xs : List Byte, quarterRun 0 xs ++ quarterRun 1 xs ++ quarterRun 2 xs ++ quarterRun 3 xs = xs ∧
      ∀ k, k < 4 → (quarterRun k xs).length = (k + 1) * xs.length / 4 - k * xs.length / 4) ∧
    (∀ (w : Nat) (data : List Byte), 0 < w → (samples w data.length data).flatten = data ∧
      (∀ x ∈ samples w data.length data, 1 ≤ x.length ∧ x.length ≤ w) ∧
      ∀ x ∈ (samples w data.length data).dropLast, x.length = w) ∧
    ((u.inFlight = .none ∨ u.inFlight = .black) →
      s.onAir o = { picture := none, audio := silent, captions := [] }) ∧
    (∀ n f, s.heldFrame n = some f →
      (u.inFlight = .program n → s.onAir o =
        { picture := if u.dataLost then none else picture f.pages
          audio := if u.dataLost then silent else audio u.muteLanes f.pages
          captions := if member u.muteLanes 9 then [] else quarterRun q f.captions }) ∧
      (u.inFlight = .again n → s.onAir o =
        { picture := if u.dataLost then none else picture f.pages
          audio := if u.dataLost then silent else audio u.muteLanes f.pages, captions := [] })) ∧
    (∀ k p f, u.inFlight = .filler k p → (s.clip k).frames[p]? = some f → s.onAir o =
      { picture := if u.dataLost then none else picture f.pages
        audio := if u.dataLost then silent else audio 0 f.pages, captions := [] })

/-- The loss of a sink ends the frame in flight and starts the count of frames missed, and takes a Stopping outlet to
Off; its return makes a running outlet rejoin at its target, passing the frames before it, after which the store has
released what it may and the records that end below the new N are passed; at or below its target it stands. (Rests on
log entries 3, 4, 8, 17, 33, 35, 46, the model's choices.) -/
def Obligations.Sinks : Prop :=
  ∀ (s : State) (o : OutletId),
    let u := s.outlet o
    let p := s.endFlight o
    let k := s.depth o - (s.outletCfg o).target
    (u.sink = .present → ∃ t, exec (.sinkLost o) s = .next t ∧ KeptBut [.outlets, .store, .cuts, .bank] s t ∧
      LinkKept s t ∧ t.store = p.store ∧ t.bank = p.bank ∧
      t.outlets = s.outlets.set o.val { p.outlet o with
        sink := .lost, missed := 0, state := if u.state = .stopping then .off else u.state } o.isLt) ∧
    (u.sink = .lost → ∃ t, Completes (.sinkLost o) s t [] []) ∧
    (u.sink = .present → ∃ t, Completes (.sinkReturned o) s t [] []) ∧
    (u.sink = .lost → s.isRunning o = false → ∃ t, Completes (.sinkReturned o) s t [.outlets] [] ∧
      t.outlets = s.outlets.set o.val { u with sink := .present } o.isLt) ∧
    (u.sink = .lost → s.isRunning o = true → k = 0 → ∃ t,
      Completes (.sinkReturned o) s t [.outlets] [.rejoined o 0] ∧
      t.outlets = s.outlets.set o.val { u with sink := .present } o.isLt) ∧
    (u.sink = .lost → s.isRunning o = true → 0 < k → ∃ t closed,
      Completes (.sinkReturned o) s t [.outlets, .store, .cuts] (closed ++ [.rejoined o k]) ∧
      (∀ n ∈ closed, n.body.head? = some 0xcc) ∧
      t.outlets = s.outlets.set o.val ({ u with
        sink := .present, readMark := s.ingest.mark - (s.outletCfg o).target }.counting
          (fun x => { x with skipped := x.skipped + BitVec.ofNat 32 k })) o.isLt ∧
      t.store = { s.store with
        held := s.released (s.heldWith
          (fun i => decide (u.readMark ≤ i ∧ i < s.ingest.mark - (s.outletCfg o).target))
          (fun f => { f with owing := removeBit f.owing o.val })) } ∧
      (t.store.held.length = s.store.held.length → closed = [] ∧
        t.cuts = { s.cuts with records := s.cuts.records.map (fun r =>
          if ∃ l, r.last = some l ∧ l < s.ingest.mark - (s.outletCfg o).target
          then { r with outcomes := r.outcomes.set o.val r.outcomes[o].passed o.isLt } else r) }))

/-- A read error: a Whole frame in flight becomes Damaged with FrameDamaged, and the outlet's page data ends for the
period; of the copy engine's frame it also aborts the grab; of a filler frame it ends the page data alone. (Rests on
log entries 3, 4, 8, 17, 33, the model's choices.) -/
def Obligations.ReadErrors : Prop :=
  ∀ (s : State) (o : OutletId),
    let u := s.outlet o
    let lost := s.outlets.set o.val { u with dataLost := true } o.isLt
    let spoiled := fun n : Nat => s.heldWith (· == n) (fun f => { f with condition := .damaged })
    (∀ n f, flightFrame u.inFlight = some n → s.heldFrame n = some f → f.condition = .whole → ∃ t,
      Completes (.storeReadError (.outlet o)) s t [.outlets, .store] [.frameDamaged n (.outlet o)] ∧
      t.outlets = lost ∧ (s.RingLaw → t.store = { s.store with held := spoiled n })) ∧
    (∀ n f, flightFrame u.inFlight = some n → s.heldFrame n = some f → f.condition ≠ .whole → ∃ t,
      Completes (.storeReadError (.outlet o)) s t [.outlets] [] ∧ t.outlets = lost) ∧
    (flightFrame u.inFlight = none → ∃ t, Completes (.storeReadError (.outlet o)) s t [] []) ∧
    (s.bank.engine = .idle → ∃ t, Completes (.storeReadError .copyEngine) s t [] []) ∧
    (∀ c n k f, s.bank.engine = .copying c n k → s.heldFrame n = some f → f.condition = .whole → s.RingLaw →
      ∃ t closed, Completes (.storeReadError .copyEngine) s t [.store, .cuts, .bank]
        (.frameDamaged n .copyEngine :: (closed ++ [.grabAborted c .readError (s.clip c).copied n])) ∧
      (∀ x ∈ closed, x.body.head? = some 0xcc) ∧
      t.store = { s.store with
        held := s.released ((spoiled n).map (fun f => { f with grabHold := false })) } ∧
      t.bank = { s.bank with
        clips := s.bank.clips.set c.val Clip.emptied c.isLt, engine := .idle
        lastGrab := .aborted c .readError (s.clip c).copied }) ∧
    (∀ c p, u.inFlight = .filler c p → ∃ t,
      Completes (.fillerReadError o) s t [.outlets] [] ∧ t.outlets = lost) ∧
    ((∀ c p, u.inFlight ≠ .filler c p) → ∃ t, Completes (.fillerReadError o) s t [] [])

/-- The events of one outlet leave the other outlets, ingest, the Watch Unit, the panels and the settings as they
are, and the link as it is but for what leaves and waits to leave. (Rests on log entries 3, 4, 13, the model's
choices.) -/
def Obligations.OutletsAreSeparate : Prop :=
  ∀ (s : State) (o : OutletId) (q : BitVec 2) (i : Instr),
    i ∈ [.periodStart o, .quarterBoundary o q, .sinkLost o, .sinkReturned o, .adjustmentFallsDue o,
      .storeReadError (.outlet o), .fillerReadError o] →
      ∃ t, exec i s = .next t ∧ KeptBut [.outlets, .store, .cuts, .bank] s t ∧ LinkKept s t ∧
        (∀ o', o' ≠ o → t.outlet o' = s.outlet o') ∧ t.store.filling = s.store.filling ∧
        t.bank.engine = s.bank.engine ∧ t.bank.lastGrab = s.bank.lastGrab ∧ t.cuts.nextId = s.cuts.nextId

/-! ## Ingest -/

/-- INGEST START, STOP, RATE and PAUSE, and RETAIN SET: what each changes when it is taken, when it is refused, and
the ingest report that answers all but the last. (Rests on log entries 1, 3, 4, 20, 23, the model's choices.) -/
def Obligations.IngestRequests : Prop :=
  ∀ (s : State) (tag : Byte), tag ≠ 0 → s.TakesRequests →
    let u := s.ingest
    (∀ new : IngestState, u.state = .stopped → u.mark < 4294967296 →
      ((u.reference = .lost ∧ new = .unclocked) ∨ (u.reference = .present ∧ u.source = .lost ∧ new = .bridging) ∨
        (u.reference = .present ∧ u.source = .present ∧ new = .running)) →
      ∃ t, Answered (.ingestStart tag) s t [.ingest] [.ingestState new .stopped .start u.mark]
          (replyOf .ingestStart tag .done t.ingestReport) ∧
        t.ingest = { u with state := new, cause := .start, port := .closed }) ∧
    ((u.state ≠ .stopped ∨ 4294967296 ≤ u.mark) →
      Refused (.ingestStart tag) s (replyOf .ingestStart tag .stateWrong s.ingestReport)) ∧
    (u.state ≠ .stopped → s.store.filling = none →
      ∃ t, Answered (.ingestStop tag) s t [.ingest] [.ingestState .stopped u.state .stop u.mark]
          (replyOf .ingestStop tag .done t.ingestReport) ∧
        t.ingest = { u with state := .stopped, cause := .stop, port := .closed }) ∧
    (u.state ≠ .stopped → ∃ t, exec (.ingestStop tag) s = .next t ∧
      KeptBut [.ingest, .store, .cuts, .panels] s t ∧ LinkKept s t ∧
      t.link.reply = some (replyOf .ingestStop tag .done t.ingestReport) ∧
      t.ingest = { u with state := .stopped, cause := .stop, port := .closed } ∧
      t.store = { s.store with filling := none }) ∧
    (u.state = .stopped → Refused (.ingestStop tag) s (replyOf .ingestStop tag .stateWrong s.ingestReport)) ∧
    (∀ rate : Byte, s.quiet = true → (rate = 24 ∨ rate = 25 ∨ rate = 30) →
      ∃ t, Answered (.ingestRate tag rate) s t [.ingest, .settings] []
          (replyOf (.ingestRate rate) tag .done t.ingestReport) ∧
        t.ingest = { u with tracker := none } ∧
        t.settings = { s.settings with current := { s.settings.current with rate := rate.toNat } }) ∧
    (∀ rate : Byte, s.quiet = false →
      Refused (.ingestRate tag rate) s (replyOf (.ingestRate rate) tag .stateWrong s.ingestReport)) ∧
    (∀ rate : Byte, s.quiet = true → rate ≠ 24 → rate ≠ 25 → rate ≠ 30 →
      Refused (.ingestRate tag rate) s (replyOf (.ingestRate rate) tag .badValue s.ingestReport)) ∧
    (∃ t, Answered (.ingestPause tag none) s t [] [] (replyOf (.ingestPause none) tag .done s.ingestReport)) ∧
    (∀ (f : PauseFields) (e : Bool), (f.enable = 0 ∧ e = false ∨ f.enable = 1 ∧ e = true) →
      -60 ≤ f.threshold.toInt → f.threshold.toInt ≤ -20 →
      ∃ t, Answered (.ingestPause tag (some f)) s t [.settings] []
          (replyOf (.ingestPause (some f)) tag .done t.ingestReport) ∧
        t.settings = { s.settings with current := { s.settings.current with
          threshold := f.threshold.toInt, pauseCue := f.cue, cueEnable := e } }) ∧
    (∀ f : PauseFields, (1 < f.enable.toNat ∨ f.threshold.toInt < -60 ∨ -20 < f.threshold.toInt) →
      Refused (.ingestPause tag (some f)) s (replyOf (.ingestPause (some f)) tag .badValue s.ingestReport)) ∧
    (∀ depth : Half, depth.toNat ≤ 1920 → ∃ t closed,
      Answered (.retainSet tag depth) s t [.settings, .store, .cuts] closed
        (replyOf (.retainSet depth) tag .done []) ∧
      (∀ n ∈ closed, n.body.head? = some 0xcc) ∧
      t.settings = { s.settings with current := { s.settings.current with retention := depth.toNat } } ∧
      t.store = { s.store with held := s.store.held.dropWhile (Frame.releasable s.ingest.mark depth.toNat) }) ∧
    (∀ depth : Half, 1920 < depth.toNat →
      Refused (.retainSet tag depth) s (replyOf (.retainSet depth) tag .badValue []))

/-- The four conditions of the ingest port, by the table of states: what is recorded, and the state ingest moves to;
in Running an open frame ends early first. (Rests on log entries 3, 4, 8, 18, the model's choices.) -/
def Obligations.Conditions : Prop :=
  ∀ s : State,
    let u := s.ingest
    ((u.state = .stopped ∨ u.state = .unclocked) →
      (∃ t, Completes .sourceLost s t [.ingest] [] ∧ t.ingest = { u with source := .lost }) ∧
      (∃ t, Completes .sourceReturned s t [.ingest] [] ∧ t.ingest = { u with source := .present })) ∧
    (u.state = .stopped →
      (∃ t, Completes .referenceLost s t [.ingest] [] ∧ t.ingest = { u with reference := .lost }) ∧
      (∃ t, Completes .referenceReturned s t [.ingest] [] ∧ t.ingest = { u with reference := .present })) ∧
    (u.state = .running → u.port = .closed →
      (∃ t, Completes .sourceLost s t [.ingest] [.ingestState .bridging .running .sourceLost u.mark] ∧
        t.ingest = { u with source := .lost, state := .bridging, cause := .sourceLost }) ∧
      (∃ t, Completes .referenceLost s t [.ingest] [.ingestState .unclocked .running .referenceLost u.mark] ∧
        t.ingest = { u with reference := .lost, state := .unclocked, cause := .referenceLost })) ∧
    (u.state = .running →
      let t := (s.transmit.recordSource .lost).endEarly
      let r := (s.transmit.recordReference .lost).endEarly
      exec .sourceLost s = .next (if t.ingest.state = .running then (t.changeIngest .bridging .sourceLost).transmit
        else t.transmit) ∧
      exec .referenceLost s = .next (if r.ingest.state = .running
        then (r.changeIngest .unclocked .referenceLost).transmit else r.transmit)) ∧
    (u.state = .bridging →
      (∃ t, Completes .sourceReturned s t [.ingest] [.ingestState .running .bridging .sourceReturned u.mark] ∧
        t.ingest = { u with source := .present, state := .running, cause := .sourceReturned }) ∧
      (∃ t, Completes .referenceLost s t [.ingest] [.ingestState .unclocked .bridging .referenceLost u.mark] ∧
        t.ingest = { u with reference := .lost, state := .unclocked, cause := .referenceLost })) ∧
    (∀ new : IngestState, u.state = .unclocked →
      (u.source = .present ∧ new = .running ∨ u.source = .lost ∧ new = .bridging) →
      ∃ t, Completes .referenceReturned s t [.ingest] [.ingestState new .unclocked .referenceReturned u.mark] ∧
        t.ingest = { u with reference := .present, state := new, cause := .referenceReturned }) ∧
    (u.state = .running → (∃ t, Completes .sourceReturned s t [] []) ∧ ∃ t, Completes .referenceReturned s t [] []) ∧
    (u.state = .bridging → (∃ t, Completes .sourceLost s t [] []) ∧ ∃ t, Completes .referenceReturned s t [] []) ∧
    (u.state = .unclocked → ∃ t, Completes .referenceLost s t [] [])

/-- A frame start in Running: it makes a record Filling, with E at I, and reports the move of the edge to the Cut
Table, when a record is free; it is refused when none
is and the oldest Held frame is in flight; it first ends an open frame. In any other state it has no effect. (Rests
on log entries 3, 4, 8, 18, the model's choices.) -/
def Obligations.FrameStarts : Prop :=
  ∀ (s : State) (tc : Option RawTimecode),
    let u := s.ingest
    let fresh : Frame :=
      { seq := u.mark, timecode := none, pages := [], lanes := 0, condition := .whole, pause := none, cues := []
        captions := [], owing := 0, emitting := 0, grabHold := false }
    (u.state ≠ .running → ∃ t, Completes (.frameStart tc) s t [] []) ∧
    (u.state = .running → u.port = .closed → s.store.inUse < 2048 →
      ∃ t, exec (.frameStart tc) s = .next t ∧ KeptBut [.store, .ingest, .cuts, .panels] s t ∧ LinkKept s t ∧
        t.store = { s.store with filling := some fresh } ∧
        t.ingest = { u with port := .withRecord { lane := none, truncated := false, carried := tc } } ∧
        t.edge = some u.mark ∧
        let moved := fun l : Link => ((s.modLink (fun _ => l)).setFilling (some fresh)).edgeMoved s.edge
        t.cuts = (moved s.link).cuts ∧ t.panels = (moved s.link).panels ∧
        t.link = Link.event (fun l => (moved l).link) s.link) ∧
    (u.state = .running → u.port = .closed → 2048 ≤ s.store.inUse →
      (s.store.held = [] ∨ ∃ v rest, s.store.held = v :: rest ∧ 0 < v.emitting) →
      ∃ t, Completes (.frameStart tc) s t [.ingest] [.ingestRefused u.mark] ∧
        t.ingest = { u with refused := u.refused + 1, port := .withoutRecord }) ∧
    (u.state = .running → ∀ v : State, 2048 ≤ s.store.inUse → u.port = .closed → s.transmit.tryEvict = some v →
      ∃ t, exec (.frameStart tc) s = .next t ∧ t.store.held = v.store.held ∧
        t.store.filling.map Frame.seq = some u.mark ∧ t.outlets = v.outlets ∧ t.bank = v.bank) ∧
    (u.state = .running → exec (.frameStart tc) s = .next (s.transmit.endEarly.frameStart tc).transmit)

/-- Eviction: refused when no frame is Held or the oldest is in flight; otherwise the oldest goes, each outlet that
owes it is pressed past it, a grab that holds it aborts, and the store looks for frames to release. (Rests on log
entry 17, the model's choices.) -/
def Obligations.Eviction : Prop :=
  ∀ s : State,
    (s.store.held = [] → s.tryEvict = none) ∧
    (∀ v rest, s.store.held = v :: rest → 0 < v.emitting → s.tryEvict = none) ∧
    (∀ v rest, s.store.held = v :: rest → v.emitting = 0 → ∃ t, s.tryEvict = some t ∧
      KeptBut [.store, .outlets, .cuts, .bank] s t ∧ LinkKept s t ∧
      (∀ o : OutletId, t.outlet o = if member v.owing o.val
        then { s.outlet o with readMark := v.seq + 1 }.counting (fun c => { c with pressed := c.pressed + 1 })
        else s.outlet o) ∧
      ((v.grabHold = false ∨ s.bank.engine = .idle) → t.bank = s.bank ∧
        t.store = { s.store with held := s.released rest }) ∧
      (∀ c n k, v.grabHold = true → s.bank.engine = .copying c n k →
        t.store = { s.store with held := s.released (rest.map (fun f => { f with grabHold := false })) } ∧
        t.bank = { s.bank with
          clips := s.bank.clips.set c.val Clip.emptied c.isLt, engine := .idle
          lastGrab := .aborted c .evicted (s.clip c).copied }))

/-- Section data of an open frame with a record: captions up to 128 bytes, cues up to 4, and lane bytes in the order
of the lanes, into the last page or a new one, each lane's bytes kept in full unless the frame is truncated; in any
other state of the port it is discarded. (Rests on log entries 3, 4, 8, the model's choices.) -/
def Obligations.SectionDataKept : Prop :=
  ∀ (s : State) (piece : Piece),
    let u := s.ingest
    let spoiled := fun f : Frame =>
      { f with condition := if f.condition = .whole then .damaged else f.condition }
    ((u.state ≠ .running ∨ u.port = .closed ∨ u.port = .withoutRecord) →
      ∃ t, Completes (.sectionData piece) s t [] []) ∧
    (∀ x f, u.state = .running → u.port = .withRecord x → s.store.filling = some f →
      (∀ bytes, piece = .captions bytes → ∃ t, Completes (.sectionData piece) s t [.store] [] ∧
        let kept := (f.captions ++ bytes).take 128
        t.store = { s.store with filling := some { f with
          captions := kept, lanes := if kept = [] then f.lanes else insertBit f.lanes 9
          condition := if 128 < f.captions.length + bytes.length ∧ f.condition = .whole then .damaged
            else f.condition } }) ∧
      (∀ w, piece = .cue w → ∃ t, Completes (.sectionData piece) s t [.store] [] ∧
        t.store = { s.store with filling := some (if f.cues.length < 4 then { f with cues := f.cues ++ [w] }
          else spoiled f) }) ∧
      (∀ (l : Lane) (data : List Byte),
        (piece = .picture data ∧ l = 0 ∨ ∃ track : Fin 8, piece = .audio track data ∧ l.val = track.val + 1) →
        (x.truncated = true → ∃ t, Completes (.sectionData piece) s t [] []) ∧
        (∀ m, x.truncated = false → x.lane = some m → l < m → ∃ t, Completes (.sectionData piece) s t [.store] [] ∧
          t.store = { s.store with filling := some (spoiled f) }) ∧
        (x.truncated = false → (∀ m, x.lane = some m → m ≤ l) →
          (∀ before p, f.pages = before ++ [p] → p.lane = l → 0 < data.length →
            p.data.length + data.length ≤ 16384 → ∃ t, Completes (.sectionData piece) s t [.store, .ingest] [] ∧
              t.ingest = { u with port := .withRecord { x with lane := some l } } ∧
              t.store.held = s.store.held ∧
              t.store.filling = some { f with pages := before ++ [{ p with data := p.data ++ data }] }) ∧
          ((∀ p, f.pages.getLast? = some p → p.lane ≠ l) → 0 < data.length → data.length ≤ 16384 →
            f.pages.length < 64 → 0 < s.freePages → ∃ t, Completes (.sectionData piece) s t [.store, .ingest] [] ∧
              t.ingest = { u with port := .withRecord { x with lane := some l } } ∧
              t.store = { s.store with filling := some { f with
                pages := f.pages ++ [{ lane := l, data := data }], lanes := insertBit f.lanes l.val } }) ∧
          ((∀ p, f.pages.getLast? = some p → p.lane ≠ l) → 0 < data.length → 64 ≤ f.pages.length →
            ∃ t, Completes (.sectionData piece) s t [.store, .ingest] [] ∧
              t.ingest = { u with port := .withRecord { x with lane := some l, truncated := true } } ∧
              t.store = { s.store with filling := some (spoiled f) }) ∧
          (∃ t y g, exec (.sectionData piece) s = .next t ∧ KeptBut [.store, .ingest, .outlets, .cuts, .bank] s t ∧
            LinkKept s t ∧ t.ingest = { u with port := .withRecord y } ∧ y.lane = some l ∧ y.carried = x.carried ∧
            t.store.filling = some g ∧
            (y.truncated = false → laneData l g.pages = laneData l f.pages ++ data ∧ g.condition = f.condition) ∧
            (y.truncated = true → g.condition ≠ .whole ∧
              ∃ k, laneData l g.pages = laneData l f.pages ++ data.take k) ∧
            (∀ m, m ≠ l → laneData m g.pages = laneData m f.pages) ∧
            g.seq = f.seq ∧ g.captions = f.captions ∧ g.cues = f.cues))))

/-- A completion, by a frame end or by a reference frame time in Bridging: the frame joins the Held frames with its
timecode, pause mark and the running outlets as its owing set, I and the counters rise, frames missed rise where a
sink is Lost, the items are offered, ingest stops at the end of numbering, and the store looks for frames to release;
a completion by bridging first reports the move of the edge to the Cut Table, which otherwise changes only by a release.
(Rests on log entries 3, 4, 17, 37, the model's choices.) -/
def Obligations.Completions : Prop :=
  ∀ (s : State) (f : Frame) (i : Instr) (carried : Option RawTimecode) (bridged : Counter),
    let u := s.ingest
    let c := s.settings.current
    ((i = .frameEnd ∧ u.state = .running ∧ s.store.filling = some f ∧ bridged = u.bridged ∧
        ∃ x, u.port = .withRecord x ∧ carried = x.carried) ∨
      (i = .referenceFrameTime ∧ u.state = .bridging ∧ s.store.filling = none ∧ u.port = .closed ∧ carried = none ∧
        s.store.inUse < 2048 ∧ bridged = u.bridged + 1 ∧ f = Frame.fresh u.mark .empty)) →
    u.mark < 4294967296 →
    let x := { f with
      timecode := some (decideTimecode c.rate u.tracker carried), pause := some (decidePause c f)
      owing := s.runningSet, emitting := 0, grabHold := false }
    ∃ t, exec i s = .next t ∧ KeptBut [.store, .ingest, .outlets, .cuts, .watch, .panels] s t ∧ LinkKept s t ∧
      t.store.held = (s.store.held ++ [x]).dropWhile (Frame.releasable (u.mark + 1) c.retention) ∧
      t.store.filling = none ∧
      t.ingest = { u with
        mark := u.mark + 1, port := .closed, tracker := x.timecode, completed := u.completed + 1
        damaged := if f.condition = .damaged then u.damaged + 1 else u.damaged, bridged := bridged
        state := if u.mark + 1 = 4294967296 then .stopped else u.state
        cause := if u.mark + 1 = 4294967296 then .sequenceEnd else u.cause } ∧
      t.outlets = s.outlets.map (fun w =>
        if w.sink = .lost then { w with missed := min (w.missed + 1) 65535 } else w) ∧
      t.watch = (s.offerAll (frameItems f.seq (decideTimecode c.rate u.tracker carried) f.cues)).watch ∧
      (i = .frameEnd → t.panels = s.panels ∧
        (s.store.held ≠ [] → t.store.held.length = s.store.held.length + 1 → t.cuts = s.cuts)) ∧
      (i = .referenceFrameTime →
        let moved := (s.completeHeld f).edgeMoved s.edge
        t.panels = moved.panels ∧ (t.store.held.length = s.store.held.length + 1 → t.cuts = moved.cuts))

/-- An open frame that ends early completes Damaged if it has a record and closes if it has none; a frame end without
a record completes nothing, and a reference frame time makes no frame outside Bridging or when its record is refused.
(Rests on log entries 3, 4, 8, the model's choices.) -/
def Obligations.OtherFrameEnds : Prop :=
  ∀ s : State,
    let u := s.ingest
    (s.ingest.port = .closed → s.endEarly = s) ∧
    (s.ingest.port = .withoutRecord → s.endEarly = s.modIngest (fun u => { u with port := .closed })) ∧
    (∀ x f, s.ingest.port = .withRecord x → s.store.filling = some f →
      s.endEarly = (s.setFilling (some { f with
        condition := if f.condition = .whole then .damaged else f.condition })).complete) ∧
    ((u.state ≠ .running ∨ u.port = .closed) → ∃ t, Completes .frameEnd s t [] []) ∧
    (u.state = .running → u.port = .withoutRecord →
      ∃ t, Completes .frameEnd s t [.ingest] [] ∧ t.ingest = { u with port := .closed }) ∧
    (u.state ≠ .bridging → ∃ t, Completes .referenceFrameTime s t [] []) ∧
    (u.state = .bridging → 2048 ≤ s.store.inUse →
      (s.store.held = [] ∨ ∃ v rest, s.store.held = v :: rest ∧ 0 < v.emitting) →
      ∃ t, Completes .referenceFrameTime s t [.ingest] [.ingestRefused u.mark] ∧
        t.ingest = { u with refused := u.refused + 1 })

/-- The timecode and the pause mark of a completed frame: a carried timecode in range is kept, any other frame has
the tracker's timecode plus one frame or 00:00:00:00; the A1 peak is the level of the largest sample of lane A1, −96
without A1 data; a level is rounded up to a whole number from −96 to 0, and a frame is a pause frame below the threshold, by its cue, or when it is Empty. (Rests on log entry 9, the
model's choices.) -/
def Obligations.TimecodeAndPause : Prop :=
  (∀ (rate : Nat) (tracker : Option Timecode) (x : RawTimecode),
    (x.hh.toNat < 24 → x.mm.toNat < 60 → x.ss.toNat < 60 → x.ff.toNat < rate →
      decideTimecode rate tracker (some x) =
        { hh := x.hh.toNat, mm := x.mm.toNat, ss := x.ss.toNat, ff := x.ff.toNat, source := .carried }) ∧
    ((24 ≤ x.hh.toNat ∨ 60 ≤ x.mm.toNat ∨ 60 ≤ x.ss.toNat ∨ rate ≤ x.ff.toNat) →
      decideTimecode rate tracker (some x) = decideTimecode rate tracker none) ∧
    decideTimecode rate none none = { hh := 0, mm := 0, ss := 0, ff := 0, source := .synthesized }) ∧
  (∀ (rate : Nat) (t : Timecode), 0 < rate → t.hh < 24 → t.mm < 60 → t.ss < 60 → t.ff < rate →
    let n := decideTimecode rate (some t) none
    n.source = .synthesized ∧ n.hh < 24 ∧ n.mm < 60 ∧ n.ss < 60 ∧ n.ff < rate ∧
      (((t.hh * 60 + t.mm) * 60 + t.ss) * rate + t.ff + 1) % (86400 * rate) =
        ((n.hh * 60 + n.mm) * 60 + n.ss) * rate + n.ff) ∧
  (∀ (c : Settings) (f : Frame), (decidePause c f).peak = a1Peak f.pages ∧
    ((decidePause c f).isPause = true ↔
      a1Peak f.pages < c.threshold ∨ (c.cueEnable = true ∧ c.pauseCue ∈ f.cues) ∨ f.condition = .empty)) ∧
  (∀ pages : List Page, (∀ p ∈ pages, p.lane = laneA1 → p.data = []) → a1Peak pages = -96) ∧
  (∀ pages : List Page, laneData laneA1 pages ≠ [] →
    a1Peak pages = levelOf (greatestMagnitude (laneData laneA1 pages)) Config.fullScale) ∧
  (∀ data : List Byte,
    (∀ x ∈ samples Config.sampleWidth data.length data, Config.sampleMagnitude x ≤ greatestMagnitude data) ∧
    (data ≠ [] → ∃ x ∈ samples Config.sampleWidth data.length data,
      Config.sampleMagnitude x = greatestMagnitude data)) ∧
  (∀ (m full k : Nat), k ≤ 96 → m ^ 20 * 10 ^ k ≤ full ^ 20 →
    (k = 96 ∨ full ^ 20 < m ^ 20 * 10 ^ (k + 1)) → levelOf m full = -(k : Int))

/-! ## The Cut Table -/

/-- Outcomes: how one is computed for a record, and how two combine, in an order that does not matter. Joining goes
on until no two records meet; a joined record keeps the older's id and origin, covers, where both keep the law of a
record, what both cover, and holds the union of holders. The drafts that remain are some of the first, in their order;
every frame that one covered is covered after by one of its kind and lanes, and the range asked for by the one that took
it in. (Rests on log entries 16, 43, the model's choices.) -/
def Obligations.OutcomesAndJoining : Prop :=
  (∀ (s : State) (r : CutRecord) (o : OutletId),
    let airs := ∃ n, flightFrame (s.outlet o).inFlight = some n ∧ r.covers s.edge n = true
    let late := ∃ l, r.last = some l ∧ l < (s.outlet o).readMark ∧ ¬ (r.kind = .mute ∧ airs)
    (s.isRunning o = false → s.outcomeFor r o = .idle) ∧
    (s.isRunning o = true → late → s.outcomeFor r o = .tooLate) ∧
    (s.isRunning o = true → ¬ late → (r.first < (s.outlet o).readMark ∨ airs) → s.outcomeFor r o = .inside) ∧
    (s.isRunning o = true → ¬ late → ¬ (r.first < (s.outlet o).readMark ∨ airs) → s.outcomeFor r o = .ahead)) ∧
  (∀ a b : CutOutcome, a.combine b = b.combine a) ∧
  (∀ a b c : CutOutcome, (a.combine b).combine c = a.combine (b.combine c)) ∧
  (∀ a : CutOutcome, a.combine a = a ∧ CutOutcome.idle.combine a = a) ∧
  (∀ a : CutOutcome, a ≠ .idle → CutOutcome.stopped.combine a = a) ∧
  CutOutcome.ahead.combine .inside = .inside ∧ CutOutcome.ahead.combine .done = .ahead ∧
  CutOutcome.ahead.combine .partly = .inside ∧ CutOutcome.ahead.combine .tooLate = .inside ∧
  CutOutcome.inside.combine .done = .inside ∧ CutOutcome.inside.combine .partly = .inside ∧
  CutOutcome.inside.combine .tooLate = .inside ∧ CutOutcome.done.combine .partly = .partly ∧
  CutOutcome.done.combine .tooLate = .partly ∧ CutOutcome.partly.combine .tooLate = .partly ∧
  (∀ (edge : Option Nat) (n : Nat) (ds : List Draft), ds.length ≤ n + 1 →
    (joinAll edge n ds).Pairwise (fun a b => a.record.meets edge b.record = false)) ∧
  (∀ (edge : Option Nat) (n : Nat) (ds : List Draft),
    ((joinAll edge n ds).map (fun d => d.record.id)).Sublist (ds.map (fun d => d.record.id)) ∧
    ∀ d ∈ ds, ∀ m, d.record.covers edge m = true → ∃ e ∈ joinAll edge n ds,
      e.record.kind = d.record.kind ∧ e.record.lanes = d.record.lanes ∧ e.record.covers edge m = true ∧
        (d.asked = true → e.asked = true)) ∧
  (∀ (edge : Option Nat) (a b : CutRecord), a.meets edge b = true →
    let j := a.join b
    j.id = a.id ∧ j.origin = a.origin ∧ j.kind = a.kind ∧ j.kind = b.kind ∧ j.lanes = a.lanes ∧ j.lanes = b.lanes ∧
      j.holders = a.holders ||| b.holders ∧ (j.last = none ↔ a.last = none ∨ b.last = none) ∧
      (∀ o : OutletId, j.outcomes[o] = a.outcomes[o].combine b.outcomes[o]) ∧
      (a.Lawful → b.Lawful → ∀ n, (a.covers edge n = true ∨ b.covers edge n = true) ↔ j.covers edge n = true))

/-- CUT: what is refused and why; a range that meets no record and finds room makes one record at the table's end,
with the next free id; one that meets records is Merged into the oldest of them; and in a full table a Drop is Widened
into the newest Drop. After a Merged or a Widened the table is the records with the range joined in, until no two meet,
and the reply carries the record that has the range: the older record joined with the range, in its place, where that
meets no other. Where it is open it is tested against the hold limit, and closes there with HoldTimedOut in table
order. (Rests on log entries 1, 3, 4, 16, 17, 20, 22, 43, 44, the model's choices.) -/
def Obligations.CutRequests : Prop :=
  ∀ (s : State) (tag kind : Byte) (lanes : Half) (first : BitVec 32) (last : Option (BitVec 32)), tag ≠ 0 →
    s.TakesRequests →
    let i := Instr.cut tag kind lanes first last
    let r := Request.cut kind lanes first (if last.isSome then 1 else 0) (last.getD 0)
    let reach := match s.edge with | some e => e + 255 | none => s.ingest.mark + 254
    let badLanes := kind = 2 ∧ (lanesOf lanes = 0 ∨ member (lanesOf lanes) 0 = true)
    let badRange := (∃ l, last = some l ∧ (l.toNat < first.toNat ∨ reach < l.toNat)) ∨
      (last = none ∧ reach < first.toNat)
    ((2 < kind.toNat ∨ badLanes ∨ badRange) → Refused i s (replyOf r tag .badValue [])) ∧
    (∀ k : CutKind, kind = k.toByte → ¬ badLanes → ¬ badRange →
      (s.store.held = [] → Refused i s (replyOf r tag .outOfStore [])) ∧
      (∀ h l, s.oldestHeld = some h → last = some l → l.toNat < h →
        Refused i s (replyOf r tag .outOfStore [])) ∧
      (∀ h : Nat, s.oldestHeld = some h → (∀ l, last = some l → h ≤ l.toNat) →
        let idle : CutRecord :=
          { id := s.cuts.newId, kind := k, lanes := if k = .mute then lanesOf lanes else 0x3ff
            first := max first.toNat h, last := last.map BitVec.toNat, leastLast := none
            holders := if last = none then 0x10 else 0, origin := .link, outcomes := Vector.replicate 4 .idle }
        let x := { idle with outcomes := Vector.ofFn (s.outcomeFor idle) }
        let records := s.cuts.records
        let limit := s.settings.current.holdLimit
        let meets := ∃ y ∈ records, y.meets s.edge x = true
        let apart := fun ys : List CutRecord => ys.Pairwise (fun a b => a.meets s.edge b = false)
        let draft := fun y : CutRecord =>
          ({ record := y, before := if y.last = none then y.coveredEnd s.edge else none, asked := false } : Draft)
        let settle := fun ds : List Draft => (joinAll s.edge ds.length ds).map (fun d =>
          if d.asked then { d with record := s.passRecord d.record } else d)
        let reached := fun d : Draft => d.record.limitReached limit s.edge
        let shut := fun d : Draft => s.passRecord { d.record with
          last := some (max (max (d.record.first + limit - 1) (d.record.leastLast.getD 0)) (d.before.getD 0))
          leastLast := none, holders := 0 }
        let left := fun d : Draft => if reached d then shut d else d.record
        let gives := fun (code : ResultCode) (next : Nat) (ds : List Draft) =>
          let taken := fun (kind : CutKind) (p : PanelId) =>
            ∃ d ∈ ds, d.record.kind = kind ∧ reached d = true ∧ member d.record.holders p.val = true
          ∃ d t, ds.find? Draft.asked = some d ∧ exec i s = .next t ∧ KeptBut [.cuts, .panels] s t ∧ LinkKept s t ∧
            (∃ fields, t.link.reply = some (replyOf r tag code fields)) ∧ t.cuts.nextId = next ∧
            t.cuts.records.length ≤ ds.length ∧
            (d.record.last ≠ none → (∀ e ∈ ds, s.retirable e.record = false) → ∃ n,
              Answered i s t [.cuts] [] (replyOf r tag code (d.record.bytes n)) ∧
              t.cuts.records = ds.map Draft.record ∧ t.cutPosition d.record.id = some n) ∧
            (d.record.last = none → (∀ e ∈ ds, reached e = true → s.retirable (shut e) = false) → ∃ n,
              Answered i s t [.cuts, .panels] (ds.filterMap (fun e => if reached e then
                some (.holdTimedOut e.record.id e.record.kind e.record.first ((shut e).last.getD 0) e.record.holders)
                else none)) (replyOf r tag code ((left d).bytes n)) ∧
              t.cuts.records = ds.map left ∧ t.cutPosition d.record.id = some n ∧
              ∀ p : PanelId,
                ((t.panel p).muteLamp = true ↔ (s.panel p).muteLamp = true ∧ ¬ taken .mute p) ∧
                ((t.panel p).coverLamp = true ↔ (s.panel p).coverLamp = true ∧ ¬ taken .cover p) ∧
                t.panel p = { s.panel p with muteLamp := (t.panel p).muteLamp, coverLamp := (t.panel p).coverLamp })
        (¬ meets → records.length < 32 → s.CutLaw →
          (∀ y ∈ records, y.id ≠ x.id) ∧ 1 ≤ x.id ∧ x.id ≤ 255 ∧
          (∃ j, x.id = (s.cuts.nextId + j - 1) % 255 + 1 ∧
            ∀ m, m < j → ∃ y ∈ records, y.id = (s.cuts.nextId + m - 1) % 255 + 1) ∧
          gives .done (if x.id < 255 then x.id + 1 else 1)
            (records.map draft ++ [{ record := x, before := none, asked := true }]) ∧
          (x.limitReached limit s.edge = false →
            (∀ y ∈ records, s.retirable y = false ∧ y.limitReached limit s.edge = false) →
            ∃ t, Answered i s t [.cuts] [] (replyOf r tag .done (x.bytes records.length)) ∧
              t.cuts.records = records ++ [x])) ∧
        (meets →
          let ds := settle (records.map draft ++ [{ record := { x with id := 0 }, before := none, asked := true }])
          gives .merged s.cuts.nextId ds ∧ ds.length ≤ records.length ∧
          ∀ pre y post, records = pre ++ y :: post → y.meets s.edge x = true → apart (pre ++ y.join x :: post) →
            ds.map Draft.record = pre ++ s.passRecord (y.join x) :: post) ∧
        (¬ meets → 32 ≤ records.length → (k ≠ .drop ∨ ∀ y ∈ records, y.kind ≠ .drop) →
          Refused i s (replyOf r tag .tableFull [])) ∧
        (¬ meets → 32 ≤ records.length → k = .drop → ∀ pre y post, records = pre ++ y :: post → y.kind = .drop →
          (∀ z ∈ post, z.kind ≠ .drop) →
          let ds := settle (pre.map draft ++ { draft y with record := y.join x, asked := true } :: post.map draft)
          gives .widened s.cuts.nextId ds ∧ ds.length ≤ records.length ∧
          (apart (pre ++ y.join x :: post) → ds.map Draft.record = pre ++ s.passRecord (y.join x) :: post))))

/-- CUT CLOSE: an id not in the table, a closed record, and one that the link does not hold are refused; otherwise
the link leaves the holders, and a record that no holder keeps closes at the larger of E and its least last, with the
passing check. (Rests on log entries 1, 3, 4, 11, 17, 22, the model's choices.) -/
def Obligations.CutCloses : Prop :=
  ∀ (s : State) (tag id : Byte), tag ≠ 0 → s.TakesRequests → s.CutLaw →
    let i := Instr.cutClose tag id
    let q := Request.cutClose id
    ((∀ r ∈ s.cuts.records, r.id ≠ id.toNat) → Refused i s (replyOf q tag .badValue [])) ∧
    (∀ r ∈ s.cuts.records, r.id = id.toNat →
      let kept := { r with holders := r.holders &&& 0x0f }
      (r.last ≠ none → Refused i s (replyOf q tag .alreadyClosed [])) ∧
      (r.last = none → member r.holders 4 = false → Refused i s (replyOf q tag .stateWrong [])) ∧
      (r.last = none → member r.holders 4 = true → kept.holders ≠ 0 → ∃ t k,
        Answered i s t [.cuts] [] (replyOf q tag .done (kept.bytes k)) ∧ s.cutPosition id.toNat = some k ∧
        t.cuts = { s.cuts with records := s.cuts.records.map (fun x => if x.id = id.toNat then kept else x) }) ∧
      (∀ e, r.coveredEnd s.edge = some e → r.last = none → member r.holders 4 = true → kept.holders = 0 →
        let y := { r with
          last := some e, leastLast := none, holders := 0
          outcomes := Vector.ofFn (fun o => if s.isRunning o = true ∧ e < (s.outlet o).readMark
            then r.outcomes[o].passed else r.outcomes[o]) }
        (s.retirable y = false → ∃ t k,
          Answered i s t [.cuts] [] (replyOf q tag .done (y.bytes k)) ∧ s.cutPosition id.toNat = some k ∧
          t.cuts = { s.cuts with records := s.cuts.records.map (fun x => if x.id = id.toNat then y else x) }) ∧
        (s.retirable y = true → ∃ t reply,
          Answered i s t [.cuts] [.cutClosed y.id y.kind y.lanes y.origin y.first e y.outcomes] reply ∧
          t.cuts = { s.cuts with records := s.cuts.records.filter (fun x => decide (x.id ≠ id.toNat)) })) ∧
      (1 ≤ r.first → r.last = none → member r.holders 4 = true → kept.holders = 0 → r.coveredEnd s.edge = none →
        ∃ t reply, Answered i s t [.cuts] [.cutClosed r.id r.kind r.lanes r.origin r.first (r.first - 1)
            (r.outcomes.map CutOutcome.passed)] reply ∧
          t.cuts = { s.cuts with records := s.cuts.records.filter (fun x => decide (x.id ≠ id.toNat)) }))

/-- The closing by the hold limit: no record that stays has reached the limit, each that had reached it is closed
where the limit puts it without a holder, one HoldTimedOut is queued for each, in table order, and the lamps of the
panels that held them go off; with none at the limit nothing changes. A record that retires as it closes is left to
EdgeMoves. (Rests on log entries 3, 4, 14, 17, the model's choices; the order of the notices is that of entry 17, and no
rule gives it.) -/
def Obligations.HoldLimitCloses : Prop :=
  (∀ s : State, s.edge = none → ∃ t, Completes .holdLimitClose s t [] []) ∧
  ∀ (s : State) (e : Nat), s.edge = some e →
    let limit := s.settings.current.holdLimit
    let reached := fun r : CutRecord => r.last = none ∧ r.first + limit < e + 1
    let closed := fun r : CutRecord => s.passRecord { r with
      last := some (max (max (r.first + limit - 1) (r.leastLast.getD 0)) e), leastLast := none, holders := 0 }
    let taken := fun kind : CutKind => fun p : PanelId =>
      ∃ r ∈ s.cuts.records, r.kind = kind ∧ reached r ∧ member r.holders p.val = true
    ((∀ r ∈ s.cuts.records, ¬ reached r) → ∃ t, Completes .holdLimitClose s t [] []) ∧
    ((∀ r ∈ s.cuts.records, reached r → s.retirable (closed r) = false) → ∃ t ns,
      Completes .holdLimitClose s t [.cuts, .panels] ns ∧
      ns = s.cuts.records.filterMap (fun r => if r.last = none ∧ r.first + limit < e + 1
        then some (.holdTimedOut r.id r.kind r.first ((closed r).last.getD 0) r.holders) else none) ∧
      t.cuts = { s.cuts with records := s.cuts.records.map (fun r =>
        if r.last = none ∧ r.first + limit < e + 1 then closed r else r) } ∧
      ∀ p : PanelId,
        ((t.panel p).muteLamp = true ↔ (s.panel p).muteLamp = true ∧ ¬ taken .mute p) ∧
        ((t.panel p).coverLamp = true ↔ (s.panel p).coverLamp = true ∧ ¬ taken .cover p) ∧
        t.panel p = { s.panel p with muteLamp := (t.panel p).muteLamp, coverLamp := (t.panel p).coverLamp })

/-- A report that the edge has moved, from `before`: an open record that has reached the limit closes at the largest of
first + limit − 1, its least last and the highest frame it covered before, without a holder, with HoldTimedOut, the
passing check and the retirement check, and the lamps of the panels that held it go off; two grown records that meet
are joined in the older one's place. After a forward move no two records meet, no open one has reached the limit, and
every frame from the oldest Held one on that a record covered is still covered by one of its kind and lanes. (Rests on
log entries 17, 44, the model's choices.) -/
def Obligations.EdgeMoves : Prop :=
  ∀ (s : State) (before : Option Nat),
    let limit := s.settings.current.holdLimit
    let t := s.edgeMoved before
    let reached := fun r : CutRecord => r.last.isNone && s.edge.any (fun e => decide (r.first + limit < e + 1))
    let covered := fun r : CutRecord => if r.last = none then (r.coveredEnd before).getD 0 else 0
    let closed := fun (r : CutRecord) (top : Nat) => s.passRecord { r with
      last := some (max (max (r.first + limit - 1) (r.leastLast.getD 0)) top), leastLast := none, holders := 0 }
    let fate := fun (r : CutRecord) (top : Nat) =>
      let y := closed r top
      let l := y.last.getD 0
      let timedOut : Notice := .holdTimedOut r.id r.kind r.first l r.holders
      if reached r then
        (if s.retirable y then ([timedOut, .cutClosed y.id y.kind y.lanes y.origin y.first l y.outcomes], none)
         else ([timedOut], some y))
      else ([], some r)
    let becomes := fun rs : List (CutRecord × Nat) =>
      let taken := fun (kind : CutKind) (p : PanelId) =>
        ∃ x ∈ rs, x.1.kind = kind ∧ reached x.1 = true ∧ member x.1.holders p.val = true
      t.cuts = { s.cuts with records := rs.filterMap (fun x => (fate x.1 x.2).2) } ∧
      t.link = s.link.postAll (rs.flatMap (fun x => (fate x.1 x.2).1)) ∧
      ∀ p : PanelId,
        ((t.panel p).muteLamp = true ↔ (s.panel p).muteLamp = true ∧ ¬ taken .mute p) ∧
        ((t.panel p).coverLamp = true ↔ (s.panel p).coverLamp = true ∧ ¬ taken .cover p) ∧
        t.panel p = { s.panel p with muteLamp := (t.panel p).muteLamp, coverLamp := (t.panel p).coverLamp }
    let apart := fun rs : List CutRecord => rs.Pairwise (fun a b => a.meets s.edge b = false)
    KeptBut [.cuts, .panels] s t ∧
    (apart s.cuts.records → becomes (s.cuts.records.map (fun r => (r, covered r)))) ∧
    (∀ pre mid post a b, s.cuts.records = pre ++ a :: (mid ++ b :: post) → a.meets s.edge b = true →
      apart (pre ++ a.join b :: (mid ++ post)) →
      becomes (pre.map (fun r => (r, covered r)) ++
        (a.join b, max (covered a) (covered b)) :: (mid ++ post).map (fun r => (r, covered r)))) ∧
    ((∀ x ∈ before, ∃ e ∈ s.edge, x ≤ e) →
      t.MeetLaw ∧ t.LimitLaw ∧
      ∀ h n r, s.oldestHeld = some h → h ≤ n → r ∈ s.cuts.records → r.covers before n = true →
        ∃ y ∈ t.cuts.records, y.kind = r.kind ∧ y.lanes = r.lanes ∧ y.covers s.edge n = true)

/-! ## Watch slots -/

/-- A cue item and the criteria of a Cue slot: every bit that the mask compares is equal; and a frame offers each of its
cue words, a repeated one as often as it stands in the list, one after another. -/
def Obligations.CueCriteria : Prop :=
  (∀ (c : WatchConfig) (x : Item) (w : Half), c.source = .cue → x.cue = some w →
    (c.meets x = true ↔ ∀ b : Nat, b < 16 → member c.mask b = true → member w b = member c.pattern b)) ∧
  (∀ (c : WatchConfig) (w : Half), c.mask = 0xffff → (c.meetsCue w = true ↔ w = c.pattern)) ∧
  (∀ (c : WatchConfig) (w : Half), c.mask = 0xff00 →
    (c.meetsCue w = true ↔ w.toNat / 256 = c.pattern.toNat / 256)) ∧
  (∀ (c : WatchConfig) (w : Half), c.mask = 0 → c.meetsCue w = true) ∧
  (∀ (n : Nat) (t : Timecode) (cues : List Half),
    frameItems n t cues = cues.map (fun w => { seq := n, timecode := t, cue := some w }) ++
      [{ seq := n, timecode := t, cue := none }]) ∧
  (∀ (s : State) (x : Item) (xs : List Item), s.offerAll (x :: xs) = (s.offer x).offerAll xs)

/-- An offered item: the lowest-numbered Armed slot whose criteria it meets takes it and no other sees it; the take
keeps the capture, sets lost over an unread one, starts the action, and spends a Once slot. A Report is Taken at once
with its notice, and an action that finds the queue full is refused Busy. (Rests on log entry 24, the model's
choices.) -/
def Obligations.Takes : Prop :=
  ∀ (s : State) (x : Item) (c : WatchConfig),
    ((∀ k : SlotId, (s.slot k).wants x = false) → s.offer x = s) ∧
    (∀ k : SlotId, (s.slot k).state = .armed → (s.slot k).config = some c → c.meets x = true →
      (∀ j : SlotId, j < k → (s.slot j).wants x = false) →
      let y := s.slot k
      let taken : Slot := { y with
        capture := some x, lost := y.lost || y.capture.isSome
        state := if c.mode = .once then .spent else .armed }
      let at_ := fun (r : ActionResult) (d : ResultDetail) =>
        s.watch.slots.set k.val { taken with result := r, detail := d } k.isLt
      let t := s.offer x
      (c.action = .report → KeptBut [.watch] s t ∧ t.watch = { s.watch with slots := at_ .taken .none } ∧
        t.link = s.link.post (.watchCapture k x y.capture.isSome .taken .none)) ∧
      (c.action ≠ .report → 16 ≤ s.watch.queue.length → KeptBut [.watch] s t ∧
        t.watch = { s.watch with slots := at_ (.refused .busy) (.code .busy) } ∧
        t.link = s.link.post (.watchCapture k x y.capture.isSome (.refused .busy) (.code .busy))) ∧
      (c.action ≠ .report → s.watch.queue.length < 16 → KeptBut [.watch] s t ∧ t.link = s.link ∧
        ∃ waiting : OutletSet, (∀ set n, c.action = .retarget set n → waiting = set) ∧
          ((∃ a b p q, c.action = .cut a b p q) → waiting = 0) ∧
          t.watch = { slots := at_ .pending .none, queue := s.watch.queue ++
            [{ slot := k, capture := x, lost := y.capture.isSome, action := c.action, current := true
               waiting := waiting, clipped := 0 }] })) ∧
    (∀ n : Timecode, c.source = .timecode → x.cue = none → x.timecode = n → (c.meets x = true ↔
      (member c.compare 0 = true → c.timecode.hh.toNat = n.hh) ∧
      (member c.compare 1 = true → c.timecode.mm.toNat = n.mm) ∧
      (member c.compare 2 = true → c.timecode.ss.toNat = n.ss) ∧
      (member c.compare 3 = true → c.timecode.ff.toNat = n.ff)))

/-- The owners take the actions that wait: the Cut Table the oldest Cut, whose range runs from pre frames before its frame
to post after, within the numbers and from the oldest Held frame on, an outlet the oldest Retarget that waits for
it; an answered entry leaves the queue, its slot takes the answer if it is its newest current one, and WatchCapture
is queued; with no entry that waits nothing happens. (Rests on log entries 3, 4, 8, 15, 25, the model's choices.) -/
def Obligations.WatchActions : Prop :=
  ∀ (s : State) (o : OutletId),
    let answered := fun (k : SlotId) (newest : Bool) (r : ActionResult) (d : ResultDetail) =>
      if newest then s.watch.slots.set k.val { s.slot k with result := r, detail := d } k.isLt else s.watch.slots
    let newest := fun (e : ActionEntry) (post : List ActionEntry) =>
      e.current && post.all (fun x => !(x.current && x.slot == e.slot))
    ((∀ x ∈ s.watch.queue, ∀ a b p q, x.action ≠ .cut a b p q) → ∃ t, Completes .watchCut s t [] []) ∧
    (∀ pre post e kind lanes before after, s.watch.queue = pre ++ e :: post → e.action = .cut kind lanes before after →
      (∀ x ∈ pre, ∀ a b p q, x.action ≠ .cut a b p q) →
      let z := s.transmit.slotCut e.slot kind lanes e.capture.seq before after
      ∃ t r d, exec .watchCut s = .next t ∧ KeptBut [.watch, .cuts, .panels] s t ∧ LinkKept s t ∧
        t.watch = { slots := answered e.slot (newest e post) r d, queue := pre ++ post } ∧ t.cuts = z.1.cuts ∧
        t.link = (z.1.link.post (.watchCapture e.slot e.capture e.lost r d)).choose ∧
        (z.2.record = none → r = .refused z.2.code ∧ d = .code z.2.code) ∧
        (∀ y k, z.2.record = some (y, k) → d = .record y.id ∧
          (z.2.code = .done → r = .taken) ∧ (z.2.code = .merged → r = .merged) ∧
          (z.2.code = .widened → r = .widened))) ∧
    (∀ (k : SlotId) (kind : CutKind) (lanes : LaneMask) (m before after : Nat),
      let z := s.slotCut k kind lanes m before after
      let last := min (m + after) 4294967295
      (s.oldestHeld = none → z = (s, { code := .outOfStore, record := none })) ∧
      (∀ h, s.oldestHeld = some h →
        (last < h → z = (s, { code := .outOfStore, record := none })) ∧
        (h ≤ last → z = s.createCut
          { kind := kind, lanes := if kind = .mute then lanes else 0x3ff, first := max (m - before) h
            last := some last, holders := 0, origin := .watch k }))) ∧
    ((∀ x ∈ s.watch.queue, member x.waiting o.val = false) → ∃ t, Completes (.retarget o) s t [] []) ∧
    (∀ pre post e (set : OutletSet) (n : Nat), s.watch.queue = pre ++ e :: post → e.action = .retarget set n →
      member e.waiting o.val = true → (∀ x ∈ pre, member x.waiting o.val = false) →
      let target := max n (s.outletCfg o).floor
      let clipped := if n < (s.outletCfg o).floor then insertBit e.clipped o.val else e.clipped
      let left := removeBit e.waiting o.val
      let r : ActionResult := if clipped = 0 then .taken else .clipped
      let d : ResultDetail := if clipped = 0 then .none else .outlets clipped
      ∃ t, Completes (.retarget o) s t [.watch, .outlets, .settings]
          (if left = 0 then [.watchCapture e.slot e.capture e.lost r d] else []) ∧
        t.watch = (if left = 0 then { slots := answered e.slot (newest e post) r d, queue := pre ++ post }
          else { s.watch with queue := pre ++ { e with waiting := left, clipped := clipped } :: post }) ∧
        t.settings = { s.settings with current := { s.settings.current with
          outlets := s.settings.current.outlets.set o.val { s.outletCfg o with target := target } o.isLt } } ∧
        t.outlets = if s.isRunning o
          then s.outlets.set o.val { s.outlet o with
            deferred := min (s.outlet o).deferred (gap target (s.depth o)) } o.isLt
          else s.outlets)

/-- WATCH SET, ARM, DISARM and READ: what each changes in its slot when it is taken, and when it is refused; each
answers with the slot report, READ and DISARM with the capture and lost flag as they stood. (Rests on log entries 1,
3, 4, 22, the model's choices.) -/
def Obligations.WatchRequests : Prop :=
  ∀ (s : State) (tag slot : Byte) (k : SlotId), tag ≠ 0 → s.TakesRequests → slot.toNat = k.val →
    let y := s.slot k
    let report := s.slotReport k
    let with_ := fun z : Slot => s.watch.slots.set k.val z k.isLt
    (∀ w : WatchFields, y.state ≠ .disabled →
      Refused (.watchSet tag slot w) s (replyOf (.watchSet slot w) tag .slotBusy report)) ∧
    (∀ w : WatchFields, y.state = .disabled →
      let bits := fun i : Nat => member w.compare i = true
      let badTime := w.source = 1 ∧
        ((bits 0 ∧ 23 < w.timecode.hh.toNat) ∨ (bits 1 ∧ 59 < w.timecode.mm.toNat) ∨
          (bits 2 ∧ 59 < w.timecode.ss.toNat) ∨ (bits 3 ∧ 29 < w.timecode.ff.toNat))
      let badCut := w.action = 1 ∧
        (2 < w.kind.toNat ∨ (w.kind = 2 ∧ (lanesOf w.lanes = 0 ∨ member (lanesOf w.lanes) 0 = true)))
      let badRetarget := w.action = 2 ∧ (outletsOf w.outlets = 0 ∨ 1920 < w.target.toNat)
      let bad := 1 < w.source.toNat ∨ 1 < w.mode.toNat ∨ 2 < w.action.toNat ∨ badTime ∨ badCut ∨ badRetarget
      (bad → Refused (.watchSet tag slot w) s (replyOf (.watchSet slot w) tag .badValue report)) ∧
      (¬ bad → ∃ t, Answered (.watchSet tag slot w) s t [.watch] []
          (replyOf (.watchSet slot w) tag .done (t.slotReport k)) ∧
        let kind : CutKind := if w.kind = 0 then .drop else if w.kind = 1 then .cover else .mute
        let action : WatchAction := if w.action = 0 then .report
          else if w.action = 1 then .cut kind (lanesOf w.lanes) w.pre.toNat w.post.toNat
          else .retarget (outletsOf w.outlets) w.target.toNat
        let c : WatchConfig :=
          { source := if w.source = 0 then .cue else .timecode, pattern := w.pattern, mask := w.mask
            timecode := w.timecode, compare := w.compare.setWidth 4
            mode := if w.mode = 0 then .once else .repeating, action := action }
        t.watch = { slots := with_ { y with config := some c, result := .none, detail := .none }
                    queue := s.watch.queue.map (fun e =>
                      if e.slot = k then { e with current := false } else e) })) ∧
    (y.state = .disabled → y.config = none →
      Refused (.watchArm tag slot) s (replyOf (.watchArm slot) tag .stateWrong report)) ∧
    ((y.state ≠ .disabled ∨ y.config ≠ none) →
      ∃ t, Answered (.watchArm tag slot) s t [.watch] [] (replyOf (.watchArm slot) tag .done (t.slotReport k)) ∧
        t.watch = { s.watch with slots := with_ { y with state := .armed } }) ∧
    (∃ t, Answered (.watchDisarm tag slot) s t [.watch] []
        (replyOf (.watchDisarm slot) tag .done (t.slotReportWith k y.capture y.lost)) ∧
      t.watch = { s.watch with slots := with_ { y with state := .disabled, capture := none, lost := false } }) ∧
    (∃ t, Answered (.watchRead tag slot) s t [.watch] []
        (replyOf (.watchRead slot) tag .done (t.slotReportWith k y.capture y.lost)) ∧
      t.watch = { s.watch with slots := with_ { y with capture := none, lost := false } })

/-! ## Filler clips -/

/-- CLIP GRAB, CLIP CLEAR and the copying of a page: the checks of a grab in order, the records and holds it takes,
each page copied into the filler frame, the end of a frame's copy and of the grab, and the aborts. A source frame
without pages completes as soon as it becomes the frame under copy, so `j` of them in a row complete in the event that
reaches the first. (Rests on log entries 1, 3, 4, 8, 12, 17, 21, 22, 38, 39, the model's choices.) -/
def Obligations.Clips : Prop :=
  ∀ (s : State) (c : ClipId),
    let k := s.clip c
    let clips := fun z : Clip => s.bank.clips.set c.val z c.isLt
    let aborted := fun cause : AbortCause =>
      { s.bank with clips := clips Clip.emptied, engine := .idle, lastGrab := .aborted c cause k.copied }
    let freed := s.released (s.store.held.map (fun f => { f with grabHold := false }))
    let retires := fun ns : List Notice => ∀ x ∈ ns, x.body.head? = some 0xcc
    let took := fun (x : FillerFrame) (f : Frame) => { x with
      lanes := removeBit f.lanes 9, condition := if f.condition = .empty then .empty else .whole }
    (∀ tag clip : Byte, tag ≠ 0 → s.TakesRequests → clip.toNat = c.val →
      (∀ (first : BitVec 32) (count : Byte),
        let q := Request.clipGrab clip first count
        let i := Instr.clipGrab tag clip first count
        let refused := fun code : ResultCode => Refused i s (replyOf q tag code (s.clipReport c))
        let lengthOk := 1 ≤ count.toNat ∧ count.toNat ≤ 120
        let held := ∀ j, j < count.toNat → s.isHeld (first.toNat + j) = true
        (¬ lengthOk → refused .badValue) ∧
        (lengthOk → s.bank.engine ≠ .idle → refused .busy) ∧
        (lengthOk → s.bank.engine = .idle → k.state = .ready → refused .stateWrong) ∧
        (lengthOk → s.bank.engine = .idle → k.state ≠ .ready → ¬ held → refused .outOfStore) ∧
        (lengthOk → s.bank.engine = .idle → k.state ≠ .ready → held → s.freeFillerRecords < count.toNat →
          refused .noSpace) ∧
        (lengthOk → s.bank.engine = .idle → k.state ≠ .ready → held → count.toNat ≤ s.freeFillerRecords →
          ∀ j, j ≤ count.toNat →
            (∀ x, x < j → ∀ f ∈ s.heldFrame (first.toNat + x), f.pages = []) →
            (j < count.toNat → ∀ f ∈ s.store.held, f.seq = first.toNat + j → f.pages ≠ []) →
            let marked := s.store.held.map (fun f => { f with
              grabHold := if first.toNat ≤ f.seq ∧ f.seq < first.toNat + count.toNat
                then decide (first.toNat + j ≤ f.seq) else f.grabHold })
            let filled := { k with
              state := if j < count.toNat then .grabbing else .ready, sourceFirst := some first.toNat
              count := count.toNat, copied := j
              frames := (List.range count.toNat).map (fun x =>
                let fresh : FillerFrame :=
                  { source := first.toNat + x, pages := [], lanes := 0, condition := .whole }
                if x < j then ((s.heldFrame (first.toNat + x)).map (took fresh)).getD fresh else fresh) }
            ∃ t closed,
              Answered i s t [.bank, .store, .cuts]
                (closed ++ if j < count.toNat then [] else [.grabDone c first.toNat count.toNat 0])
                (replyOf q tag .done (t.clipReport c)) ∧
              retires closed ∧
              t.bank = (if j < count.toNat
                then { s.bank with clips := clips filled, engine := .copying c (first.toNat + j) 0 }
                else { s.bank with clips := clips filled, engine := .idle, lastGrab := .done c }) ∧
              t.store = { s.store with held := if j = 0 then marked else s.released marked } ∧
              (j = 0 → closed = [] ∧ t.cuts = s.cuts))) ∧
      (let q := Request.clipClear clip
       let i := Instr.clipClear tag clip
       (k.state = .empty → ∃ t, Answered i s t [] [] (replyOf q tag .done (s.clipReport c))) ∧
        (k.state = .ready → k.users = 0 → ∃ t, Answered i s t [.bank] [] (replyOf q tag .done (t.clipReport c)) ∧
          t.bank = { s.bank with clips := clips Clip.emptied }) ∧
        (k.state = .ready → k.users ≠ 0 → Refused i s (replyOf q tag .clipInUse (s.clipReport c))) ∧
        (∀ n d, k.state = .grabbing → s.bank.engine = .copying c n d → ∃ t closed,
          Answered i s t [.bank, .store, .cuts] (closed ++ [.grabAborted c .cleared k.copied n])
            (replyOf q tag .done (t.clipReport c)) ∧
          retires closed ∧ t.bank = aborted .cleared ∧ t.store = { s.store with held := freed }))) ∧
    (s.bank.engine = .idle → ∃ t, Completes .copyPageDone s t [] []) ∧
    (∀ n d f p, s.bank.engine = .copying c n d → s.heldFrame n = some f → f.pages[d]? = some p →
      (s.freePages = 0 → ∃ t closed, Completes .copyPageDone s t [.bank, .store, .cuts]
          (closed ++ [.grabAborted c .noSpace k.copied n]) ∧
        retires closed ∧ t.bank = aborted .noSpace ∧ t.store = { s.store with held := freed }) ∧
      (0 < s.freePages → d + 1 < f.pages.length → ∃ t, Completes .copyPageDone s t [.bank] [] ∧
        t.bank = { s.bank with
          clips := clips { k with
            frames := k.frames.modify k.copied (fun x => { x with pages := x.pages ++ [p] }) }
          engine := .copying c n (d + 1) }) ∧
      (0 < s.freePages → d + 1 = f.pages.length → k.count ≤ 120 →
        ∀ j, (j = 0 ∨ k.copied + j < k.count) →
          (∀ x, 1 ≤ x → x ≤ j → ∃ g, s.heldFrame (n + x) = some g ∧ g.pages = [] ∧ g.grabHold = true) →
          (k.copied + 1 + j < k.count → ∀ g ∈ s.store.held, g.seq = n + j + 1 → g.pages ≠ []) →
          let goesOn := k.copied + 1 + j < k.count
          let filled := { k with
            state := if goesOn then k.state else .ready, copied := k.copied + 1 + j
            frames := k.frames.mapIdx (fun x y =>
              if k.copied ≤ x ∧ x ≤ k.copied + j then
                ((s.heldFrame (n + (x - k.copied))).map
                  (took { y with pages := if x = k.copied then y.pages ++ [p] else y.pages })).getD y
              else y) }
          let pages := (filled.frames.map (fun x => x.pages.length)).sum
          ∃ t closed,
            Completes .copyPageDone s t [.bank, .store, .cuts]
              (closed ++ if goesOn then [] else [.grabDone c (k.sourceFirst.getD 0) k.count pages]) ∧
            retires closed ∧
            t.bank = (if goesOn
              then { s.bank with clips := clips filled, engine := .copying c (n + j + 1) 0 }
              else { s.bank with clips := clips filled, engine := .idle, lastGrab := .done c }) ∧
            t.store = { s.store with
              held := s.released (s.heldWith (fun x => decide (n ≤ x ∧ x ≤ n + j))
                (fun f => { f with grabHold := false })) }))

/-! ## Operator panels -/

/-- PANEL SET and PANEL RESTORE, and the events of a line: how a packet is framed byte by byte, what a bad packet
does to the error count and the standing, and the tallies. A line that becomes Isolated queues PanelStanding, leaves the
holders of every record, and each record without a holder then closes at the larger of E and its least last, or with an
empty range, and retires where it may, in table order. (Rests on log entries 1, 3, 4, 8, 10, 17, 22, the model's
choices.) -/
def Obligations.PanelLines : Prop :=
  ∀ (s : State) (p : PanelId) (b : Byte),
    let x := s.panel p
    let line := fun y : Panel => s.panels.set p.val y p.isLt
    let ends := fun (i : Instr) (f : State → State) =>
      exec i s = .next (f (s.transmit.setPanelReceiver p .idle)).transmit
    let i := Instr.panelByteReceived p b
    (∀ (tag panel pre bs : Byte) (span lanes : Half), tag ≠ 0 → s.TakesRequests → panel.toNat = p.val →
      let q := Request.panelSet panel span lanes bs pre
      let ok := 1 ≤ span.toNat ∧ span.toNat ≤ 1920 ∧ lanesOf lanes ≠ 0 ∧ member (lanesOf lanes) 0 = false ∧
        pre.toNat ≤ 30
      (ok → ∃ t, Answered (.panelSet tag panel span lanes bs pre) s t [.settings] []
          (replyOf q tag .done (t.panelReport p)) ∧
        let c := { span := span.toNat, lanes := lanesOf lanes, buttons := buttonsOf bs, preroll := pre.toNat }
        t.settings = { s.settings with current := { s.settings.current with
          panels := s.settings.current.panels.set p.val c p.isLt } }) ∧
      (¬ ok → Refused (.panelSet tag panel span lanes bs pre) s (replyOf q tag .badValue [])) ∧
      ∃ t, Answered (.panelRestore tag panel) s t [.panels]
          (if x.standing = .active then [] else [.panelStanding p x.standing .active 0])
          (replyOf (.panelRestore panel) tag .done (t.panelReport p)) ∧
        t.panels = line { x with errorCount := 0, standing := .active, receiver := .idle }) ∧
    (x.receiver = .idle → ∃ t, Completes i s t [.panels] [] ∧
      t.panels = line { x with receiver := if b = 0xa5 then .inPacket [] else .idle }) ∧
    (x.receiver = .inPacket [] → (b = 0 ∨ 16 < b.toNat) → ends i (·.badPacket p .length)) ∧
    (x.receiver = .inPacket [] → b ≠ 0 → b.toNat ≤ 16 → ∃ t, Completes i s t [.panels] [] ∧
      t.panels = line { x with receiver := .inPacket [b] }) ∧
    (∀ (n : Byte) (body : List Byte), x.receiver = .inPacket (n :: body) →
      (body.length < n.toNat → ∃ t, Completes i s t [.panels] [] ∧
        t.panels = line { x with receiver := .inPacket (n :: (body ++ [b])) }) ∧
      (n.toNat ≤ body.length → byteSum (n :: (body ++ [b])) = 0 → ends i (·.goodPacket p body)) ∧
      (n.toNat ≤ body.length → byteSum (n :: (body ++ [b])) ≠ 0 → ends i (·.badPacket p .check))) ∧
    (x.receiver = .idle → ∃ t, Completes (.panelGapExpiry p) s t [] []) ∧
    (∀ bytes, x.receiver = .inPacket bytes → ends (.panelGapExpiry p) (·.badPacket p .gap)) ∧
    (x.transmitter = .idle → ∃ t, Completes (.tallySent p) s t [] []) ∧
    (∀ body, x.transmitter = .sending body → ∃ t, Completes (.tallySent p) s t [.panels] [] ∧
      t.panels = line { x with
        transmitter := if x.tallyOwed then .sending (s.tally p) else .idle, tallyOwed := false }) ∧
    (∀ (cause : BadCause) (new : Standing),
      let t := s.badPacket p cause
      let n := x.errorCount + 4
      let counted : Panel := { x with
        errorCount := n
        badCheck := if cause = .check then x.badCheck + 1 else x.badCheck
        badLength := if cause = .length then x.badLength + 1 else x.badLength
        badGap := if cause = .gap then x.badGap + 1 else x.badGap }
      (x.standing = .isolated → KeptBut [.panels] s t ∧ t.link = s.link ∧
        t.panels = line { x with discarded := x.discarded + 1 }) ∧
      (x.standing ≠ .isolated → (n ≤ 63 ∧ new = .active ∨ 64 ≤ n ∧ n ≤ 159 ∧ new = .warned) →
        KeptBut [.panels] s t ∧ t.panels = line { counted with standing := new } ∧
        t.link = if new = x.standing then s.link else s.link.post (.panelStanding p x.standing new n)) ∧
      (x.standing ≠ .isolated → 160 ≤ n → KeptBut [.panels, .cuts] s t ∧ LinkKept s t ∧
        t.panels = line { counted with standing := .isolated, muteLamp := false, coverLamp := false } ∧
        let kept := fun r : CutRecord => ({ r with holders := r.holders &&& ~~~ only 5 p.val } : CutRecord)
        let closed := fun (r : CutRecord) (e : Nat) => ({ r with
          last := some e, leastLast := none, holders := 0
          outcomes := Vector.ofFn (fun o => if s.isRunning o = true ∧ e < (s.outlet o).readMark
            then r.outcomes[o].passed else r.outcomes[o]) } : CutRecord)
        let notice := fun (r : CutRecord) (l : Nat) =>
          Notice.cutClosed r.id r.kind r.lanes r.origin r.first l r.outcomes
        let fate := fun r : CutRecord =>
          if r.last = none ∧ (kept r).holders = 0 then
            (match r.coveredEnd s.edge with
             | some e =>
               if s.retirable (closed r e) then ([notice (closed r e) e], none) else ([], some (closed r e))
             | none => ([notice { r with outcomes := r.outcomes.map CutOutcome.passed }
                 (if r.first = 0 then Config.lastBelowZero else r.first - 1)], none))
          else (([] : List Notice), some (kept r))
        t.cuts = { s.cuts with records := s.cuts.records.filterMap (fun r => (fate r).2) } ∧
        t.link = (s.link.post (.panelStanding p x.standing .isolated n)).postAll
          (s.cuts.records.flatMap (fun r => (fate r).1)) ∧
        ∀ r ∈ t.cuts.records, member r.holders p.val = false))

/-- Good packets and buttons: a good packet is counted, brings the error count down, and owes a tally; between these a
PRESS (type 2) or a LET GO (type 3) of a button does what it does, and HELLO, an unknown type, and a body without a
button or with an unknown one do nothing; a press of a
button that is not enabled or already lit is Ignored; DROP, DROP ALL, MUTE and COVER ask for the ranges that the
panel's settings give; the answer becomes the last result and the lamp; a LET GO ends the hold. The Cut Table answers a
let go with the id of the record and whether it closed, or that there was no hold, and then nothing but the lamp and the
last result changes. (Rests on log entry 17, the model's choices.) -/
def Obligations.PanelButtons : Prop :=
  ∀ (s : State) (p : PanelId),
    let x := s.panel p
    let c := s.panelCfg p
    let last := fun (z : State) (b : Button) (m : PanelMessage) (r : PressResult) (mute cover : Bool) =>
      { z with panels := z.panels.set p.val { z.panel p with
          muteLamp := mute, coverLamp := cover
          lastResult := some { button := b, message := m, result := r } } p.isLt }
    (∀ body, x.standing = .isolated → let t := s.goodPacket p body
      KeptBut [.panels] s t ∧ t.link = s.link ∧
        t.panels = s.panels.set p.val { x with discarded := x.discarded + 1 } p.isLt) ∧
    (∀ body, x.standing ≠ .isolated → x.errorCount ≤ 160 → let t := s.goodPacket p body
      (t.panel p).good = x.good + 1 ∧ (t.panel p).packetsTaken = x.packetsTaken + 1 ∧
        (t.panel p).errorCount = x.errorCount - 1 ∧
        (t.panel p).standing = (if x.errorCount ≤ 64 then .active else .warned) ∧
        (x.transmitter = .idle → (t.panel p).transmitter = .sending (t.tally p) ∧
          (t.panel p).tallyOwed = x.tallyOwed) ∧
        (∀ b, x.transmitter = .sending b → (t.panel p).transmitter = .sending b ∧ (t.panel p).tallyOwed = true)) ∧
    (x.standing ≠ .isolated →
      let y := s.creditPacket p
      let new : Standing := if x.errorCount ≤ 64 then .active else .warned
      (x.errorCount ≤ 160 → KeptBut [.panels] s y ∧
        y.panels = s.panels.set p.val { x with
          errorCount := x.errorCount - 1, standing := new, good := x.good + 1, packetsTaken := x.packetsTaken + 1 }
          p.isLt ∧
        y.link = if new = x.standing then s.link
          else s.link.post (.panelStanding p x.standing new (x.errorCount - 1))) ∧
      (∀ (b : Button) (rest : List Byte),
        s.goodPacket p (2 :: b.toByte :: rest) = (y.panelPress p b).oweTally p ∧
        s.goodPacket p (3 :: b.toByte :: rest) = (y.releaseButton p b).oweTally p) ∧
      (∀ body : List Byte, (body.length < 2 ∨ (∃ t, body[0]? = some t ∧ t ≠ 2 ∧ t ≠ 3) ∨
          (∃ b, body[1]? = some b ∧ (b = 0 ∨ 4 < b.toNat))) →
        s.goodPacket p body = y.oweTally p)) ∧
    (∀ b : Button, (member c.buttons b.index = false ∨ (b = .mute ∧ x.muteLamp = true) ∨
        (b = .cover ∧ x.coverLamp = true)) →
      s.panelPress p b = last s b .press .ignored x.muteLamp x.coverLamp) ∧
    ((s.oldestHeld = none ∨ s.edge = none) → ∀ b : Button, member c.buttons b.index = true → x.muteLamp = false →
      x.coverLamp = false → s.panelPress p b = last s b .press (.refused .nothing) false false) ∧
    (∀ h e, s.oldestHeld = some h → s.edge = some e →
      let drop := fun first : Nat => s.createCut
        { kind := .drop, lanes := 0x3ff, first := first, last := some e, holders := 0, origin := .panel p }
      let hold := fun (kind : CutKind) (lanes : LaneMask) => s.createCut
        { kind := kind, lanes := lanes, first := max (e - c.preroll) h, last := none, holders := only 5 p.val
          origin := .panel p }
      (member c.buttons 0 = true → let z := drop (max (e + 1 - c.span) h)
        s.panelPress p .drop = last z.1 .drop .press z.2.asPress (z.1.panel p).muteLamp (z.1.panel p).coverLamp) ∧
      (∀ n, member c.buttons 1 = true → s.isRunning n = true →
        (∀ o, s.isRunning o = true → (s.outlet n).readMark ≤ (s.outlet o).readMark) →
        (e < (s.outlet n).readMark →
          s.panelPress p .dropAll = last s .dropAll .press (.refused .nothing) x.muteLamp x.coverLamp) ∧
        ((s.outlet n).readMark ≤ e → let z := drop (s.outlet n).readMark
          s.panelPress p .dropAll =
            last z.1 .dropAll .press z.2.asPress (z.1.panel p).muteLamp (z.1.panel p).coverLamp)) ∧
      (member c.buttons 1 = true → (∀ o, s.isRunning o = false) → h ≤ e → let z := drop h
        s.panelPress p .dropAll =
          last z.1 .dropAll .press z.2.asPress (z.1.panel p).muteLamp (z.1.panel p).coverLamp) ∧
      (member c.buttons 2 = true → x.muteLamp = false → let z := hold .mute c.lanes
        s.panelPress p .mute =
          last z.1 .mute .press z.2.asPress ((z.1.panel p).muteLamp || z.2.holds p) (z.1.panel p).coverLamp) ∧
      (member c.buttons 3 = true → x.coverLamp = false → let z := hold .cover 0x3ff
        s.panelPress p .cover =
          last z.1 .cover .press z.2.asPress (z.1.panel p).muteLamp ((z.1.panel p).coverLamp || z.2.holds p))) ∧
    (∀ a : CutAnswer, (a.record = none → a.asPress = .refused a.code ∧ a.holds p = false) ∧
      (∀ r k, a.record = some (r, k) →
        (a.code = .done → a.asPress = .taken r.id) ∧ (a.code = .merged → a.asPress = .merged r.id) ∧
        (a.code = .widened → a.asPress = .widened r.id) ∧
        (a.holds p = true ↔ r.last = none ∧ member r.holders p.val = true))) ∧
    (∀ b : Button, (b = .drop ∨ b = .dropAll ∨ (b = .mute ∧ x.muteLamp = false) ∨
        (b = .cover ∧ x.coverLamp = false)) →
      s.releaseButton p b = last s b .letGo .ignored x.muteLamp x.coverLamp) ∧
    (∀ (kind : CutKind) (b : Button), (kind = .mute ∧ b = .mute ∧ x.muteLamp = true) ∨
        (kind = .cover ∧ b = .cover ∧ x.coverLamp = true) →
      let t := s.releaseButton p b
      KeptBut [.panels, .cuts] s t ∧ LinkKept s t ∧ (t.panel p).lamp b = false ∧
      (∀ r ∈ s.cuts.records, r.isOpen = true → r.kind = kind → member r.holders p.val = true → s.CutLaw →
        (∀ y ∈ s.cuts.records, y.isOpen = true → y.kind = kind → member y.holders p.val = true → y = r) →
        (t.panel p).lastResult = some { button := b, message := .letGo, result := .taken r.id } ∧
        ∀ y ∈ t.cuts.records, y.isOpen = true → y.kind = kind → member y.holders p.val = false) ∧
      ((∀ r ∈ s.cuts.records, r.isOpen = true → r.kind = kind → member r.holders p.val = false) →
        t = last s b .letGo .ignored (x.muteLamp && decide (b ≠ .mute)) (x.coverLamp && decide (b ≠ .cover)))) ∧
    (∀ kind : CutKind,
      let t := (s.letGo p kind).1
      let answer := (s.letGo p kind).2
      ((∀ r ∈ s.cuts.records, r.isOpen = true → r.kind = kind → member r.holders p.val = false) →
        t = s ∧ answer = none) ∧
      (∀ r ∈ s.cuts.records, r.isOpen = true → r.kind = kind → member r.holders p.val = true → s.CutLaw →
        (∀ y ∈ s.cuts.records, y.isOpen = true → y.kind = kind → member y.holders p.val = true → y = r) →
        let kept : CutRecord := { r with holders := r.holders &&& ~~~ only 5 p.val }
        answer = some { id := r.id, closed := decide (kept.holders = 0) } ∧
        (kept.holders ≠ 0 → t = s.setCuts (s.cuts.records.map (fun y => if y.id = r.id then kept else y))) ∧
        (kept.holders = 0 → KeptBut [.cuts] s t ∧
          (∀ y ∈ t.cuts.records, y.id = r.id → y.last ≠ none ∧ y.last = r.coveredEnd s.edge ∧ y.holders = 0) ∧
          t.cuts.records.filter (fun y => decide (y.id ≠ r.id)) =
            s.cuts.records.filter (fun y => decide (y.id ≠ r.id)))))

/-! ## Laws that every step keeps -/

/-- The laws hold right after reset, and the factory settings keep their ranges. (Rests on log entry 5, the model's
choice.) -/
def Obligations.LawsHoldAtReset : Prop :=
  State.reset.QueueLaw ∧ State.reset.RingLaw ∧ State.reset.ActionLaw ∧ State.reset.TargetLaw ∧
    State.reset.CountLaw ∧ State.reset.ClaimLaw ∧ State.reset.FlightLaw ∧ State.reset.UserLaw ∧
    State.reset.PageLaw ∧ State.reset.ClipLaw ∧ State.reset.GrabLaw ∧ State.reset.CutLaw ∧ State.reset.MeetLaw ∧
    State.reset.ClosedLaw ∧ State.reset.LimitLaw ∧ State.reset.StandingLaw ∧ State.reset.IsolationLaw ∧
    State.reset.SlotLaw ∧ State.reset.settings.current.Lawful

/-- Every step keeps the sizes of the queues, the bounds of the two counts, the slots' law and the ranges of the actions,
each by itself; and, where the actions keep their ranges, floor ≤ target ≤ 1,920 and the ranges of all settings. -/
def Obligations.StepKeepsBounds : Prop :=
  ∀ s t : State, step s = .next t →
    (s.QueueLaw → t.QueueLaw) ∧ (s.CountLaw → t.CountLaw) ∧ (s.SlotLaw → t.SlotLaw) ∧ (s.ActionLaw → t.ActionLaw) ∧
    (s.ActionLaw → s.TargetLaw → t.TargetLaw) ∧
    (s.ActionLaw → s.settings.current.Lawful → t.settings.current.Lawful)

/-- Every step keeps the law of the ring, the law of the outlets' claims on it, and the law that an outlet that is Off,
or whose sink is Lost, has no frame in flight, and that every outlet is Off while the part is Loading. -/
def Obligations.StepKeepsTheRing : Prop :=
  ∀ s t : State, s.RingLaw → s.ClaimLaw → s.FlightLaw → step s = .next t → t.RingLaw ∧ t.ClaimLaw ∧ t.FlightLaw

/-- Every step keeps, with the laws of the ring and of the frames in flight, the laws of the page pool and the chains, of
the clips, of the copy engine and the grab holds, and of the users of clips. -/
def Obligations.StepKeepsTheBank : Prop :=
  ∀ s t : State, s.RingLaw → s.FlightLaw → s.PageLaw → s.ClipLaw → s.GrabLaw → s.UserLaw → step s = .next t →
    t.PageLaw ∧ t.ClipLaw ∧ t.GrabLaw ∧ t.UserLaw

/-- Every step keeps the laws of the Cut Table: every record its own law and ids distinct, where the settings and the
actions keep their ranges; no two records meet; a closed record ends at or above the oldest Held frame; and no open
record has reached the hold limit. -/
def Obligations.StepKeepsTheCutTable : Prop :=
  ∀ s t : State, step s = .next t →
    (s.settings.current.Lawful → s.ActionLaw → s.CutLaw → t.CutLaw) ∧ (s.RingLaw → s.MeetLaw → t.MeetLaw) ∧
    (s.ClosedLaw → t.ClosedLaw) ∧ (s.RingLaw → s.MeetLaw → s.LimitLaw → t.LimitLaw)

/-- Every step keeps the agreement of a panel's standing with its error count, and that an isolated panel holds no
record and has both lamps off. -/
def Obligations.StepKeepsIsolation : Prop :=
  ∀ s t : State, s.StandingLaw → s.IsolationLaw → step s = .next t → t.StandingLaw ∧ t.IsolationLaw
end

