-- ==== Sys2Proof/Laws/State.lean ====
section
/-! SUPPORT. What each update of one record changes and what it leaves: one lemma per field, true by rfl, so that no
proof unfolds a record update. -/

namespace Sys2Proof.Machine

@[simp] theorem State.modOutlet_store (s : State) (o : OutletId) (f : Outlet → Outlet) : (s.modOutlet o f).store = s.store := rfl
@[simp] theorem State.modOutlet_ingest (s : State) (o : OutletId) (f : Outlet → Outlet) : (s.modOutlet o f).ingest = s.ingest := rfl
@[simp] theorem State.modOutlet_cuts (s : State) (o : OutletId) (f : Outlet → Outlet) : (s.modOutlet o f).cuts = s.cuts := rfl
@[simp] theorem State.modOutlet_watch (s : State) (o : OutletId) (f : Outlet → Outlet) : (s.modOutlet o f).watch = s.watch := rfl
@[simp] theorem State.modOutlet_bank (s : State) (o : OutletId) (f : Outlet → Outlet) : (s.modOutlet o f).bank = s.bank := rfl
@[simp] theorem State.modOutlet_panels (s : State) (o : OutletId) (f : Outlet → Outlet) : (s.modOutlet o f).panels = s.panels := rfl
@[simp] theorem State.modOutlet_link (s : State) (o : OutletId) (f : Outlet → Outlet) : (s.modOutlet o f).link = s.link := rfl
@[simp] theorem State.modOutlet_settings (s : State) (o : OutletId) (f : Outlet → Outlet) : (s.modOutlet o f).settings = s.settings := rfl
@[simp] theorem State.modOutlet_pending (s : State) (o : OutletId) (f : Outlet → Outlet) : (s.modOutlet o f).pending = s.pending := rfl

@[simp] theorem State.count_store (s : State) (o : OutletId) (f : OutletCounters → OutletCounters) : (s.count o f).store = s.store := rfl
@[simp] theorem State.count_ingest (s : State) (o : OutletId) (f : OutletCounters → OutletCounters) : (s.count o f).ingest = s.ingest := rfl
@[simp] theorem State.count_cuts (s : State) (o : OutletId) (f : OutletCounters → OutletCounters) : (s.count o f).cuts = s.cuts := rfl
@[simp] theorem State.count_watch (s : State) (o : OutletId) (f : OutletCounters → OutletCounters) : (s.count o f).watch = s.watch := rfl
@[simp] theorem State.count_bank (s : State) (o : OutletId) (f : OutletCounters → OutletCounters) : (s.count o f).bank = s.bank := rfl
@[simp] theorem State.count_panels (s : State) (o : OutletId) (f : OutletCounters → OutletCounters) : (s.count o f).panels = s.panels := rfl
@[simp] theorem State.count_link (s : State) (o : OutletId) (f : OutletCounters → OutletCounters) : (s.count o f).link = s.link := rfl
@[simp] theorem State.count_settings (s : State) (o : OutletId) (f : OutletCounters → OutletCounters) : (s.count o f).settings = s.settings := rfl
@[simp] theorem State.count_pending (s : State) (o : OutletId) (f : OutletCounters → OutletCounters) : (s.count o f).pending = s.pending := rfl

@[simp] theorem State.modSettings_store (s : State) (f : Settings → Settings) : (s.modSettings f).store = s.store := rfl
@[simp] theorem State.modSettings_ingest (s : State) (f : Settings → Settings) : (s.modSettings f).ingest = s.ingest := rfl
@[simp] theorem State.modSettings_outlets (s : State) (f : Settings → Settings) : (s.modSettings f).outlets = s.outlets := rfl
@[simp] theorem State.modSettings_cuts (s : State) (f : Settings → Settings) : (s.modSettings f).cuts = s.cuts := rfl
@[simp] theorem State.modSettings_watch (s : State) (f : Settings → Settings) : (s.modSettings f).watch = s.watch := rfl
@[simp] theorem State.modSettings_bank (s : State) (f : Settings → Settings) : (s.modSettings f).bank = s.bank := rfl
@[simp] theorem State.modSettings_panels (s : State) (f : Settings → Settings) : (s.modSettings f).panels = s.panels := rfl
@[simp] theorem State.modSettings_link (s : State) (f : Settings → Settings) : (s.modSettings f).link = s.link := rfl
@[simp] theorem State.modSettings_pending (s : State) (f : Settings → Settings) : (s.modSettings f).pending = s.pending := rfl

@[simp] theorem State.modOutletCfg_store (s : State) (o : OutletId) (f : OutletSettings → OutletSettings) : (s.modOutletCfg o f).store = s.store := rfl
@[simp] theorem State.modOutletCfg_ingest (s : State) (o : OutletId) (f : OutletSettings → OutletSettings) : (s.modOutletCfg o f).ingest = s.ingest := rfl
@[simp] theorem State.modOutletCfg_outlets (s : State) (o : OutletId) (f : OutletSettings → OutletSettings) : (s.modOutletCfg o f).outlets = s.outlets := rfl
@[simp] theorem State.modOutletCfg_cuts (s : State) (o : OutletId) (f : OutletSettings → OutletSettings) : (s.modOutletCfg o f).cuts = s.cuts := rfl
@[simp] theorem State.modOutletCfg_watch (s : State) (o : OutletId) (f : OutletSettings → OutletSettings) : (s.modOutletCfg o f).watch = s.watch := rfl
@[simp] theorem State.modOutletCfg_bank (s : State) (o : OutletId) (f : OutletSettings → OutletSettings) : (s.modOutletCfg o f).bank = s.bank := rfl
@[simp] theorem State.modOutletCfg_panels (s : State) (o : OutletId) (f : OutletSettings → OutletSettings) : (s.modOutletCfg o f).panels = s.panels := rfl
@[simp] theorem State.modOutletCfg_link (s : State) (o : OutletId) (f : OutletSettings → OutletSettings) : (s.modOutletCfg o f).link = s.link := rfl
@[simp] theorem State.modOutletCfg_pending (s : State) (o : OutletId) (f : OutletSettings → OutletSettings) : (s.modOutletCfg o f).pending = s.pending := rfl

@[simp] theorem State.modPanel_store (s : State) (p : PanelId) (f : Panel → Panel) : (s.modPanel p f).store = s.store := rfl
@[simp] theorem State.modPanel_ingest (s : State) (p : PanelId) (f : Panel → Panel) : (s.modPanel p f).ingest = s.ingest := rfl
@[simp] theorem State.modPanel_outlets (s : State) (p : PanelId) (f : Panel → Panel) : (s.modPanel p f).outlets = s.outlets := rfl
@[simp] theorem State.modPanel_cuts (s : State) (p : PanelId) (f : Panel → Panel) : (s.modPanel p f).cuts = s.cuts := rfl
@[simp] theorem State.modPanel_watch (s : State) (p : PanelId) (f : Panel → Panel) : (s.modPanel p f).watch = s.watch := rfl
@[simp] theorem State.modPanel_bank (s : State) (p : PanelId) (f : Panel → Panel) : (s.modPanel p f).bank = s.bank := rfl
@[simp] theorem State.modPanel_link (s : State) (p : PanelId) (f : Panel → Panel) : (s.modPanel p f).link = s.link := rfl
@[simp] theorem State.modPanel_settings (s : State) (p : PanelId) (f : Panel → Panel) : (s.modPanel p f).settings = s.settings := rfl
@[simp] theorem State.modPanel_pending (s : State) (p : PanelId) (f : Panel → Panel) : (s.modPanel p f).pending = s.pending := rfl

@[simp] theorem State.modPanelCfg_store (s : State) (p : PanelId) (f : PanelSettings → PanelSettings) : (s.modPanelCfg p f).store = s.store := rfl
@[simp] theorem State.modPanelCfg_ingest (s : State) (p : PanelId) (f : PanelSettings → PanelSettings) : (s.modPanelCfg p f).ingest = s.ingest := rfl
@[simp] theorem State.modPanelCfg_outlets (s : State) (p : PanelId) (f : PanelSettings → PanelSettings) : (s.modPanelCfg p f).outlets = s.outlets := rfl
@[simp] theorem State.modPanelCfg_cuts (s : State) (p : PanelId) (f : PanelSettings → PanelSettings) : (s.modPanelCfg p f).cuts = s.cuts := rfl
@[simp] theorem State.modPanelCfg_watch (s : State) (p : PanelId) (f : PanelSettings → PanelSettings) : (s.modPanelCfg p f).watch = s.watch := rfl
@[simp] theorem State.modPanelCfg_bank (s : State) (p : PanelId) (f : PanelSettings → PanelSettings) : (s.modPanelCfg p f).bank = s.bank := rfl
@[simp] theorem State.modPanelCfg_panels (s : State) (p : PanelId) (f : PanelSettings → PanelSettings) : (s.modPanelCfg p f).panels = s.panels := rfl
@[simp] theorem State.modPanelCfg_link (s : State) (p : PanelId) (f : PanelSettings → PanelSettings) : (s.modPanelCfg p f).link = s.link := rfl
@[simp] theorem State.modPanelCfg_pending (s : State) (p : PanelId) (f : PanelSettings → PanelSettings) : (s.modPanelCfg p f).pending = s.pending := rfl

@[simp] theorem State.modSlot_store (s : State) (k : SlotId) (f : Slot → Slot) : (s.modSlot k f).store = s.store := rfl
@[simp] theorem State.modSlot_ingest (s : State) (k : SlotId) (f : Slot → Slot) : (s.modSlot k f).ingest = s.ingest := rfl
@[simp] theorem State.modSlot_outlets (s : State) (k : SlotId) (f : Slot → Slot) : (s.modSlot k f).outlets = s.outlets := rfl
@[simp] theorem State.modSlot_cuts (s : State) (k : SlotId) (f : Slot → Slot) : (s.modSlot k f).cuts = s.cuts := rfl
@[simp] theorem State.modSlot_bank (s : State) (k : SlotId) (f : Slot → Slot) : (s.modSlot k f).bank = s.bank := rfl
@[simp] theorem State.modSlot_panels (s : State) (k : SlotId) (f : Slot → Slot) : (s.modSlot k f).panels = s.panels := rfl
@[simp] theorem State.modSlot_link (s : State) (k : SlotId) (f : Slot → Slot) : (s.modSlot k f).link = s.link := rfl
@[simp] theorem State.modSlot_settings (s : State) (k : SlotId) (f : Slot → Slot) : (s.modSlot k f).settings = s.settings := rfl
@[simp] theorem State.modSlot_pending (s : State) (k : SlotId) (f : Slot → Slot) : (s.modSlot k f).pending = s.pending := rfl

@[simp] theorem State.modClip_store (s : State) (c : ClipId) (f : Clip → Clip) : (s.modClip c f).store = s.store := rfl
@[simp] theorem State.modClip_ingest (s : State) (c : ClipId) (f : Clip → Clip) : (s.modClip c f).ingest = s.ingest := rfl
@[simp] theorem State.modClip_outlets (s : State) (c : ClipId) (f : Clip → Clip) : (s.modClip c f).outlets = s.outlets := rfl
@[simp] theorem State.modClip_cuts (s : State) (c : ClipId) (f : Clip → Clip) : (s.modClip c f).cuts = s.cuts := rfl
@[simp] theorem State.modClip_watch (s : State) (c : ClipId) (f : Clip → Clip) : (s.modClip c f).watch = s.watch := rfl
@[simp] theorem State.modClip_panels (s : State) (c : ClipId) (f : Clip → Clip) : (s.modClip c f).panels = s.panels := rfl
@[simp] theorem State.modClip_link (s : State) (c : ClipId) (f : Clip → Clip) : (s.modClip c f).link = s.link := rfl
@[simp] theorem State.modClip_settings (s : State) (c : ClipId) (f : Clip → Clip) : (s.modClip c f).settings = s.settings := rfl
@[simp] theorem State.modClip_pending (s : State) (c : ClipId) (f : Clip → Clip) : (s.modClip c f).pending = s.pending := rfl

@[simp] theorem State.modIngest_store (s : State) (f : IngestUnit → IngestUnit) : (s.modIngest f).store = s.store := rfl
@[simp] theorem State.modIngest_outlets (s : State) (f : IngestUnit → IngestUnit) : (s.modIngest f).outlets = s.outlets := rfl
@[simp] theorem State.modIngest_cuts (s : State) (f : IngestUnit → IngestUnit) : (s.modIngest f).cuts = s.cuts := rfl
@[simp] theorem State.modIngest_watch (s : State) (f : IngestUnit → IngestUnit) : (s.modIngest f).watch = s.watch := rfl
@[simp] theorem State.modIngest_bank (s : State) (f : IngestUnit → IngestUnit) : (s.modIngest f).bank = s.bank := rfl
@[simp] theorem State.modIngest_panels (s : State) (f : IngestUnit → IngestUnit) : (s.modIngest f).panels = s.panels := rfl
@[simp] theorem State.modIngest_link (s : State) (f : IngestUnit → IngestUnit) : (s.modIngest f).link = s.link := rfl
@[simp] theorem State.modIngest_settings (s : State) (f : IngestUnit → IngestUnit) : (s.modIngest f).settings = s.settings := rfl
@[simp] theorem State.modIngest_pending (s : State) (f : IngestUnit → IngestUnit) : (s.modIngest f).pending = s.pending := rfl

@[simp] theorem State.modLink_store (s : State) (f : Link → Link) : (s.modLink f).store = s.store := rfl
@[simp] theorem State.modLink_ingest (s : State) (f : Link → Link) : (s.modLink f).ingest = s.ingest := rfl
@[simp] theorem State.modLink_outlets (s : State) (f : Link → Link) : (s.modLink f).outlets = s.outlets := rfl
@[simp] theorem State.modLink_cuts (s : State) (f : Link → Link) : (s.modLink f).cuts = s.cuts := rfl
@[simp] theorem State.modLink_watch (s : State) (f : Link → Link) : (s.modLink f).watch = s.watch := rfl
@[simp] theorem State.modLink_bank (s : State) (f : Link → Link) : (s.modLink f).bank = s.bank := rfl
@[simp] theorem State.modLink_panels (s : State) (f : Link → Link) : (s.modLink f).panels = s.panels := rfl
@[simp] theorem State.modLink_settings (s : State) (f : Link → Link) : (s.modLink f).settings = s.settings := rfl
@[simp] theorem State.modLink_pending (s : State) (f : Link → Link) : (s.modLink f).pending = s.pending := rfl

@[simp] theorem State.setCuts_store (s : State) (rs : List CutRecord) : (s.setCuts rs).store = s.store := rfl
@[simp] theorem State.setCuts_ingest (s : State) (rs : List CutRecord) : (s.setCuts rs).ingest = s.ingest := rfl
@[simp] theorem State.setCuts_outlets (s : State) (rs : List CutRecord) : (s.setCuts rs).outlets = s.outlets := rfl
@[simp] theorem State.setCuts_watch (s : State) (rs : List CutRecord) : (s.setCuts rs).watch = s.watch := rfl
@[simp] theorem State.setCuts_bank (s : State) (rs : List CutRecord) : (s.setCuts rs).bank = s.bank := rfl
@[simp] theorem State.setCuts_panels (s : State) (rs : List CutRecord) : (s.setCuts rs).panels = s.panels := rfl
@[simp] theorem State.setCuts_link (s : State) (rs : List CutRecord) : (s.setCuts rs).link = s.link := rfl
@[simp] theorem State.setCuts_settings (s : State) (rs : List CutRecord) : (s.setCuts rs).settings = s.settings := rfl
@[simp] theorem State.setCuts_pending (s : State) (rs : List CutRecord) : (s.setCuts rs).pending = s.pending := rfl

@[simp] theorem State.setHeld_ingest (s : State) (hs : List Frame) : (s.setHeld hs).ingest = s.ingest := rfl
@[simp] theorem State.setHeld_outlets (s : State) (hs : List Frame) : (s.setHeld hs).outlets = s.outlets := rfl
@[simp] theorem State.setHeld_cuts (s : State) (hs : List Frame) : (s.setHeld hs).cuts = s.cuts := rfl
@[simp] theorem State.setHeld_watch (s : State) (hs : List Frame) : (s.setHeld hs).watch = s.watch := rfl
@[simp] theorem State.setHeld_bank (s : State) (hs : List Frame) : (s.setHeld hs).bank = s.bank := rfl
@[simp] theorem State.setHeld_panels (s : State) (hs : List Frame) : (s.setHeld hs).panels = s.panels := rfl
@[simp] theorem State.setHeld_link (s : State) (hs : List Frame) : (s.setHeld hs).link = s.link := rfl
@[simp] theorem State.setHeld_settings (s : State) (hs : List Frame) : (s.setHeld hs).settings = s.settings := rfl
@[simp] theorem State.setHeld_pending (s : State) (hs : List Frame) : (s.setHeld hs).pending = s.pending := rfl

@[simp] theorem State.setFilling_ingest (s : State) (x : Option Frame) : (s.setFilling x).ingest = s.ingest := rfl
@[simp] theorem State.setFilling_outlets (s : State) (x : Option Frame) : (s.setFilling x).outlets = s.outlets := rfl
@[simp] theorem State.setFilling_cuts (s : State) (x : Option Frame) : (s.setFilling x).cuts = s.cuts := rfl
@[simp] theorem State.setFilling_watch (s : State) (x : Option Frame) : (s.setFilling x).watch = s.watch := rfl
@[simp] theorem State.setFilling_bank (s : State) (x : Option Frame) : (s.setFilling x).bank = s.bank := rfl
@[simp] theorem State.setFilling_panels (s : State) (x : Option Frame) : (s.setFilling x).panels = s.panels := rfl
@[simp] theorem State.setFilling_link (s : State) (x : Option Frame) : (s.setFilling x).link = s.link := rfl
@[simp] theorem State.setFilling_settings (s : State) (x : Option Frame) : (s.setFilling x).settings = s.settings := rfl
@[simp] theorem State.setFilling_pending (s : State) (x : Option Frame) : (s.setFilling x).pending = s.pending := rfl

@[simp] theorem State.modFrame_ingest (s : State) (n : Nat) (f : Frame → Frame) : (s.modFrame n f).ingest = s.ingest := rfl
@[simp] theorem State.modFrame_outlets (s : State) (n : Nat) (f : Frame → Frame) : (s.modFrame n f).outlets = s.outlets := rfl
@[simp] theorem State.modFrame_cuts (s : State) (n : Nat) (f : Frame → Frame) : (s.modFrame n f).cuts = s.cuts := rfl
@[simp] theorem State.modFrame_watch (s : State) (n : Nat) (f : Frame → Frame) : (s.modFrame n f).watch = s.watch := rfl
@[simp] theorem State.modFrame_bank (s : State) (n : Nat) (f : Frame → Frame) : (s.modFrame n f).bank = s.bank := rfl
@[simp] theorem State.modFrame_panels (s : State) (n : Nat) (f : Frame → Frame) : (s.modFrame n f).panels = s.panels := rfl
@[simp] theorem State.modFrame_link (s : State) (n : Nat) (f : Frame → Frame) : (s.modFrame n f).link = s.link := rfl
@[simp] theorem State.modFrame_settings (s : State) (n : Nat) (f : Frame → Frame) : (s.modFrame n f).settings = s.settings := rfl
@[simp] theorem State.modFrame_pending (s : State) (n : Nat) (f : Frame → Frame) : (s.modFrame n f).pending = s.pending := rfl

@[simp] theorem State.post_store (s : State) (n : Notice) : (s.post n).store = s.store := rfl
@[simp] theorem State.post_ingest (s : State) (n : Notice) : (s.post n).ingest = s.ingest := rfl
@[simp] theorem State.post_outlets (s : State) (n : Notice) : (s.post n).outlets = s.outlets := rfl
@[simp] theorem State.post_cuts (s : State) (n : Notice) : (s.post n).cuts = s.cuts := rfl
@[simp] theorem State.post_watch (s : State) (n : Notice) : (s.post n).watch = s.watch := rfl
@[simp] theorem State.post_bank (s : State) (n : Notice) : (s.post n).bank = s.bank := rfl
@[simp] theorem State.post_panels (s : State) (n : Notice) : (s.post n).panels = s.panels := rfl
@[simp] theorem State.post_settings (s : State) (n : Notice) : (s.post n).settings = s.settings := rfl
@[simp] theorem State.post_pending (s : State) (n : Notice) : (s.post n).pending = s.pending := rfl

@[simp] theorem State.transmit_store (s : State) : s.transmit.store = s.store := rfl
@[simp] theorem State.transmit_ingest (s : State) : s.transmit.ingest = s.ingest := rfl
@[simp] theorem State.transmit_outlets (s : State) : s.transmit.outlets = s.outlets := rfl
@[simp] theorem State.transmit_cuts (s : State) : s.transmit.cuts = s.cuts := rfl
@[simp] theorem State.transmit_watch (s : State) : s.transmit.watch = s.watch := rfl
@[simp] theorem State.transmit_bank (s : State) : s.transmit.bank = s.bank := rfl
@[simp] theorem State.transmit_panels (s : State) : s.transmit.panels = s.panels := rfl
@[simp] theorem State.transmit_settings (s : State) : s.transmit.settings = s.settings := rfl
@[simp] theorem State.transmit_pending (s : State) : s.transmit.pending = s.pending := rfl

@[simp] theorem State.withPending_store (s : State) (q : List Instr) : (s.withPending q).store = s.store := rfl
@[simp] theorem State.withPending_ingest (s : State) (q : List Instr) : (s.withPending q).ingest = s.ingest := rfl
@[simp] theorem State.withPending_outlets (s : State) (q : List Instr) : (s.withPending q).outlets = s.outlets := rfl
@[simp] theorem State.withPending_cuts (s : State) (q : List Instr) : (s.withPending q).cuts = s.cuts := rfl
@[simp] theorem State.withPending_watch (s : State) (q : List Instr) : (s.withPending q).watch = s.watch := rfl
@[simp] theorem State.withPending_bank (s : State) (q : List Instr) : (s.withPending q).bank = s.bank := rfl
@[simp] theorem State.withPending_panels (s : State) (q : List Instr) : (s.withPending q).panels = s.panels := rfl
@[simp] theorem State.withPending_link (s : State) (q : List Instr) : (s.withPending q).link = s.link := rfl
@[simp] theorem State.withPending_settings (s : State) (q : List Instr) : (s.withPending q).settings = s.settings := rfl

/-! ## What an update writes -/

@[simp] theorem State.modIngest_ingest (s : State) (f : IngestUnit → IngestUnit) :
    (s.modIngest f).ingest = f s.ingest := rfl
@[simp] theorem State.modLink_link (s : State) (f : Link → Link) : (s.modLink f).link = f s.link := rfl
@[simp] theorem State.setCuts_records (s : State) (rs : List CutRecord) : (s.setCuts rs).cuts.records = rs := rfl
@[simp] theorem State.setCuts_nextId (s : State) (rs : List CutRecord) :
    (s.setCuts rs).cuts.nextId = s.cuts.nextId := rfl
@[simp] theorem State.setHeld_held (s : State) (hs : List Frame) : (s.setHeld hs).store.held = hs := rfl
@[simp] theorem State.setHeld_filling (s : State) (hs : List Frame) :
    (s.setHeld hs).store.filling = s.store.filling := rfl
@[simp] theorem State.setFilling_held (s : State) (x : Option Frame) :
    (s.setFilling x).store.held = s.store.held := rfl
@[simp] theorem State.setFilling_filling (s : State) (x : Option Frame) : (s.setFilling x).store.filling = x := rfl
@[simp] theorem State.modFrame_held (s : State) (n : Nat) (f : Frame → Frame) :
    (s.modFrame n f).store.held = s.store.held.map (fun x => if x.seq = n then f x else x) := rfl
@[simp] theorem State.modFrame_filling (s : State) (n : Nat) (f : Frame → Frame) :
    (s.modFrame n f).store.filling = s.store.filling := rfl
@[simp] theorem State.modSettings_current (s : State) (f : Settings → Settings) :
    (s.modSettings f).settings.current = f s.settings.current := rfl
@[simp] theorem State.modSlot_queue (s : State) (k : SlotId) (f : Slot → Slot) :
    (s.modSlot k f).watch.queue = s.watch.queue := rfl
@[simp] theorem State.modClip_engine (s : State) (c : ClipId) (f : Clip → Clip) :
    (s.modClip c f).bank.engine = s.bank.engine := rfl
@[simp] theorem State.modClip_lastGrab (s : State) (c : ClipId) (f : Clip → Clip) :
    (s.modClip c f).bank.lastGrab = s.bank.lastGrab := rfl
@[simp] theorem State.transmit_link (s : State) : s.transmit.link = s.link.choose := rfl
@[simp] theorem State.withPending_pending (s : State) (q : List Instr) : (s.withPending q).pending = q := rfl

@[simp] theorem State.modOutlet_outlet (s : State) (o j : OutletId) (f : Outlet → Outlet) :
    (s.modOutlet o f).outlet j = if o = j then f (s.outlet o) else s.outlet j := by
  by_cases h : o = j
  · subst h; simp [State.modOutlet, State.outlet]
  · have h' : o.val ≠ j.val := fun e => h (Fin.ext e)
    simp [State.modOutlet, State.outlet, h, h']

@[simp] theorem State.modPanel_panel (s : State) (p j : PanelId) (f : Panel → Panel) :
    (s.modPanel p f).panel j = if p = j then f (s.panel p) else s.panel j := by
  by_cases h : p = j
  · subst h; simp [State.modPanel, State.panel]
  · have h' : p.val ≠ j.val := fun e => h (Fin.ext e)
    simp [State.modPanel, State.panel, h, h']

@[simp] theorem State.modSlot_slot (s : State) (k j : SlotId) (f : Slot → Slot) :
    (s.modSlot k f).slot j = if k = j then f (s.slot k) else s.slot j := by
  by_cases h : k = j
  · subst h; simp [State.modSlot, State.slot]
  · have h' : k.val ≠ j.val := fun e => h (Fin.ext e)
    simp [State.modSlot, State.slot, h, h']

@[simp] theorem State.modClip_clip (s : State) (c j : ClipId) (f : Clip → Clip) :
    (s.modClip c f).clip j = if c = j then f (s.clip c) else s.clip j := by
  by_cases h : c = j
  · subst h; simp [State.modClip, State.clip]
  · have h' : c.val ≠ j.val := fun e => h (Fin.ext e)
    simp [State.modClip, State.clip, h, h']

@[simp] theorem State.modOutletCfg_outletCfg (s : State) (o j : OutletId) (f : OutletSettings → OutletSettings) :
    (s.modOutletCfg o f).outletCfg j = if o = j then f (s.outletCfg o) else s.outletCfg j := by
  by_cases h : o = j
  · subst h; simp [State.modOutletCfg, State.outletCfg, State.modSettings]
  · have h' : o.val ≠ j.val := fun e => h (Fin.ext e)
    simp [State.modOutletCfg, State.outletCfg, State.modSettings, h, h']

@[simp] theorem State.modPanelCfg_panelCfg (s : State) (p j : PanelId) (f : PanelSettings → PanelSettings) :
    (s.modPanelCfg p f).panelCfg j = if p = j then f (s.panelCfg p) else s.panelCfg j := by
  by_cases h : p = j
  · subst h; simp [State.modPanelCfg, State.panelCfg, State.modSettings]
  · have h' : p.val ≠ j.val := fun e => h (Fin.ext e)
    simp [State.modPanelCfg, State.panelCfg, State.modSettings, h, h']

/-! ## Reading through an update -/

/-- Outlet records are read off the outlets alone. -/
theorem State.outlet_congr {s t : State} (h : t.outlets = s.outlets) (o : OutletId) : t.outlet o = s.outlet o := by
  simp [State.outlet, h]

/-- Settings of an outlet are read off the settings alone. -/
theorem State.outletCfg_congr {s t : State} (h : t.settings = s.settings) (o : OutletId) :
    t.outletCfg o = s.outletCfg o := by
  simp [State.outletCfg, h]

@[simp] theorem State.modOutlet_outletCfg (s : State) (o : OutletId) (f : Outlet → Outlet) (j : OutletId) :
    (s.modOutlet o f).outletCfg j = s.outletCfg j := rfl
@[simp] theorem State.modOutlet_panel (s : State) (o : OutletId) (f : Outlet → Outlet) (j : PanelId) :
    (s.modOutlet o f).panel j = s.panel j := rfl
@[simp] theorem State.modOutlet_panelCfg (s : State) (o : OutletId) (f : Outlet → Outlet) (j : PanelId) :
    (s.modOutlet o f).panelCfg j = s.panelCfg j := rfl
@[simp] theorem State.modOutlet_slot (s : State) (o : OutletId) (f : Outlet → Outlet) (j : SlotId) :
    (s.modOutlet o f).slot j = s.slot j := rfl
@[simp] theorem State.modOutlet_clip (s : State) (o : OutletId) (f : Outlet → Outlet) (j : ClipId) :
    (s.modOutlet o f).clip j = s.clip j := rfl
@[simp] theorem State.count_outletCfg (s : State) (o : OutletId) (f : OutletCounters → OutletCounters) (j : OutletId) :
    (s.count o f).outletCfg j = s.outletCfg j := rfl
@[simp] theorem State.count_panel (s : State) (o : OutletId) (f : OutletCounters → OutletCounters) (j : PanelId) :
    (s.count o f).panel j = s.panel j := rfl
@[simp] theorem State.count_panelCfg (s : State) (o : OutletId) (f : OutletCounters → OutletCounters) (j : PanelId) :
    (s.count o f).panelCfg j = s.panelCfg j := rfl
@[simp] theorem State.count_slot (s : State) (o : OutletId) (f : OutletCounters → OutletCounters) (j : SlotId) :
    (s.count o f).slot j = s.slot j := rfl
@[simp] theorem State.count_clip (s : State) (o : OutletId) (f : OutletCounters → OutletCounters) (j : ClipId) :
    (s.count o f).clip j = s.clip j := rfl
@[simp] theorem State.modSettings_outlet (s : State) (f : Settings → Settings) (j : OutletId) :
    (s.modSettings f).outlet j = s.outlet j := rfl
@[simp] theorem State.modSettings_panel (s : State) (f : Settings → Settings) (j : PanelId) :
    (s.modSettings f).panel j = s.panel j := rfl
@[simp] theorem State.modSettings_slot (s : State) (f : Settings → Settings) (j : SlotId) :
    (s.modSettings f).slot j = s.slot j := rfl
@[simp] theorem State.modSettings_clip (s : State) (f : Settings → Settings) (j : ClipId) :
    (s.modSettings f).clip j = s.clip j := rfl
@[simp] theorem State.modOutletCfg_outlet (s : State) (o : OutletId) (f : OutletSettings → OutletSettings) (j : OutletId) :
    (s.modOutletCfg o f).outlet j = s.outlet j := rfl
@[simp] theorem State.modOutletCfg_panel (s : State) (o : OutletId) (f : OutletSettings → OutletSettings) (j : PanelId) :
    (s.modOutletCfg o f).panel j = s.panel j := rfl
@[simp] theorem State.modOutletCfg_slot (s : State) (o : OutletId) (f : OutletSettings → OutletSettings) (j : SlotId) :
    (s.modOutletCfg o f).slot j = s.slot j := rfl
@[simp] theorem State.modOutletCfg_clip (s : State) (o : OutletId) (f : OutletSettings → OutletSettings) (j : ClipId) :
    (s.modOutletCfg o f).clip j = s.clip j := rfl
@[simp] theorem State.modPanel_outlet (s : State) (p : PanelId) (f : Panel → Panel) (j : OutletId) :
    (s.modPanel p f).outlet j = s.outlet j := rfl
@[simp] theorem State.modPanel_outletCfg (s : State) (p : PanelId) (f : Panel → Panel) (j : OutletId) :
    (s.modPanel p f).outletCfg j = s.outletCfg j := rfl
@[simp] theorem State.modPanel_panelCfg (s : State) (p : PanelId) (f : Panel → Panel) (j : PanelId) :
    (s.modPanel p f).panelCfg j = s.panelCfg j := rfl
@[simp] theorem State.modPanel_slot (s : State) (p : PanelId) (f : Panel → Panel) (j : SlotId) :
    (s.modPanel p f).slot j = s.slot j := rfl
@[simp] theorem State.modPanel_clip (s : State) (p : PanelId) (f : Panel → Panel) (j : ClipId) :
    (s.modPanel p f).clip j = s.clip j := rfl
@[simp] theorem State.modPanelCfg_outlet (s : State) (p : PanelId) (f : PanelSettings → PanelSettings) (j : OutletId) :
    (s.modPanelCfg p f).outlet j = s.outlet j := rfl
@[simp] theorem State.modPanelCfg_panel (s : State) (p : PanelId) (f : PanelSettings → PanelSettings) (j : PanelId) :
    (s.modPanelCfg p f).panel j = s.panel j := rfl
@[simp] theorem State.modPanelCfg_slot (s : State) (p : PanelId) (f : PanelSettings → PanelSettings) (j : SlotId) :
    (s.modPanelCfg p f).slot j = s.slot j := rfl
@[simp] theorem State.modPanelCfg_clip (s : State) (p : PanelId) (f : PanelSettings → PanelSettings) (j : ClipId) :
    (s.modPanelCfg p f).clip j = s.clip j := rfl
@[simp] theorem State.modSlot_outlet (s : State) (k : SlotId) (f : Slot → Slot) (j : OutletId) :
    (s.modSlot k f).outlet j = s.outlet j := rfl
@[simp] theorem State.modSlot_outletCfg (s : State) (k : SlotId) (f : Slot → Slot) (j : OutletId) :
    (s.modSlot k f).outletCfg j = s.outletCfg j := rfl
@[simp] theorem State.modSlot_panel (s : State) (k : SlotId) (f : Slot → Slot) (j : PanelId) :
    (s.modSlot k f).panel j = s.panel j := rfl
@[simp] theorem State.modSlot_panelCfg (s : State) (k : SlotId) (f : Slot → Slot) (j : PanelId) :
    (s.modSlot k f).panelCfg j = s.panelCfg j := rfl
@[simp] theorem State.modSlot_clip (s : State) (k : SlotId) (f : Slot → Slot) (j : ClipId) :
    (s.modSlot k f).clip j = s.clip j := rfl
@[simp] theorem State.modClip_outlet (s : State) (c : ClipId) (f : Clip → Clip) (j : OutletId) :
    (s.modClip c f).outlet j = s.outlet j := rfl
@[simp] theorem State.modClip_outletCfg (s : State) (c : ClipId) (f : Clip → Clip) (j : OutletId) :
    (s.modClip c f).outletCfg j = s.outletCfg j := rfl
@[simp] theorem State.modClip_panel (s : State) (c : ClipId) (f : Clip → Clip) (j : PanelId) :
    (s.modClip c f).panel j = s.panel j := rfl
@[simp] theorem State.modClip_panelCfg (s : State) (c : ClipId) (f : Clip → Clip) (j : PanelId) :
    (s.modClip c f).panelCfg j = s.panelCfg j := rfl
@[simp] theorem State.modClip_slot (s : State) (c : ClipId) (f : Clip → Clip) (j : SlotId) :
    (s.modClip c f).slot j = s.slot j := rfl
@[simp] theorem State.modIngest_outlet (s : State) (f : IngestUnit → IngestUnit) (j : OutletId) :
    (s.modIngest f).outlet j = s.outlet j := rfl
@[simp] theorem State.modIngest_outletCfg (s : State) (f : IngestUnit → IngestUnit) (j : OutletId) :
    (s.modIngest f).outletCfg j = s.outletCfg j := rfl
@[simp] theorem State.modIngest_panel (s : State) (f : IngestUnit → IngestUnit) (j : PanelId) :
    (s.modIngest f).panel j = s.panel j := rfl
@[simp] theorem State.modIngest_panelCfg (s : State) (f : IngestUnit → IngestUnit) (j : PanelId) :
    (s.modIngest f).panelCfg j = s.panelCfg j := rfl
@[simp] theorem State.modIngest_slot (s : State) (f : IngestUnit → IngestUnit) (j : SlotId) :
    (s.modIngest f).slot j = s.slot j := rfl
@[simp] theorem State.modIngest_clip (s : State) (f : IngestUnit → IngestUnit) (j : ClipId) :
    (s.modIngest f).clip j = s.clip j := rfl
@[simp] theorem State.modLink_outlet (s : State) (f : Link → Link) (j : OutletId) :
    (s.modLink f).outlet j = s.outlet j := rfl
@[simp] theorem State.modLink_outletCfg (s : State) (f : Link → Link) (j : OutletId) :
    (s.modLink f).outletCfg j = s.outletCfg j := rfl
@[simp] theorem State.modLink_panel (s : State) (f : Link → Link) (j : PanelId) :
    (s.modLink f).panel j = s.panel j := rfl
@[simp] theorem State.modLink_panelCfg (s : State) (f : Link → Link) (j : PanelId) :
    (s.modLink f).panelCfg j = s.panelCfg j := rfl
@[simp] theorem State.modLink_slot (s : State) (f : Link → Link) (j : SlotId) :
    (s.modLink f).slot j = s.slot j := rfl
@[simp] theorem State.modLink_clip (s : State) (f : Link → Link) (j : ClipId) :
    (s.modLink f).clip j = s.clip j := rfl
@[simp] theorem State.setCuts_outlet (s : State) (rs : List CutRecord) (j : OutletId) :
    (s.setCuts rs).outlet j = s.outlet j := rfl
@[simp] theorem State.setCuts_outletCfg (s : State) (rs : List CutRecord) (j : OutletId) :
    (s.setCuts rs).outletCfg j = s.outletCfg j := rfl
@[simp] theorem State.setCuts_panel (s : State) (rs : List CutRecord) (j : PanelId) :
    (s.setCuts rs).panel j = s.panel j := rfl
@[simp] theorem State.setCuts_panelCfg (s : State) (rs : List CutRecord) (j : PanelId) :
    (s.setCuts rs).panelCfg j = s.panelCfg j := rfl
@[simp] theorem State.setCuts_slot (s : State) (rs : List CutRecord) (j : SlotId) :
    (s.setCuts rs).slot j = s.slot j := rfl
@[simp] theorem State.setCuts_clip (s : State) (rs : List CutRecord) (j : ClipId) :
    (s.setCuts rs).clip j = s.clip j := rfl
@[simp] theorem State.setHeld_outlet (s : State) (hs : List Frame) (j : OutletId) :
    (s.setHeld hs).outlet j = s.outlet j := rfl
@[simp] theorem State.setHeld_outletCfg (s : State) (hs : List Frame) (j : OutletId) :
    (s.setHeld hs).outletCfg j = s.outletCfg j := rfl
@[simp] theorem State.setHeld_panel (s : State) (hs : List Frame) (j : PanelId) :
    (s.setHeld hs).panel j = s.panel j := rfl
@[simp] theorem State.setHeld_panelCfg (s : State) (hs : List Frame) (j : PanelId) :
    (s.setHeld hs).panelCfg j = s.panelCfg j := rfl
@[simp] theorem State.setHeld_slot (s : State) (hs : List Frame) (j : SlotId) :
    (s.setHeld hs).slot j = s.slot j := rfl
@[simp] theorem State.setHeld_clip (s : State) (hs : List Frame) (j : ClipId) :
    (s.setHeld hs).clip j = s.clip j := rfl
@[simp] theorem State.setFilling_outlet (s : State) (x : Option Frame) (j : OutletId) :
    (s.setFilling x).outlet j = s.outlet j := rfl
@[simp] theorem State.setFilling_outletCfg (s : State) (x : Option Frame) (j : OutletId) :
    (s.setFilling x).outletCfg j = s.outletCfg j := rfl
@[simp] theorem State.setFilling_panel (s : State) (x : Option Frame) (j : PanelId) :
    (s.setFilling x).panel j = s.panel j := rfl
@[simp] theorem State.setFilling_panelCfg (s : State) (x : Option Frame) (j : PanelId) :
    (s.setFilling x).panelCfg j = s.panelCfg j := rfl
@[simp] theorem State.setFilling_slot (s : State) (x : Option Frame) (j : SlotId) :
    (s.setFilling x).slot j = s.slot j := rfl
@[simp] theorem State.setFilling_clip (s : State) (x : Option Frame) (j : ClipId) :
    (s.setFilling x).clip j = s.clip j := rfl
@[simp] theorem State.modFrame_outlet (s : State) (n : Nat) (f : Frame → Frame) (j : OutletId) :
    (s.modFrame n f).outlet j = s.outlet j := rfl
@[simp] theorem State.modFrame_outletCfg (s : State) (n : Nat) (f : Frame → Frame) (j : OutletId) :
    (s.modFrame n f).outletCfg j = s.outletCfg j := rfl
@[simp] theorem State.modFrame_panel (s : State) (n : Nat) (f : Frame → Frame) (j : PanelId) :
    (s.modFrame n f).panel j = s.panel j := rfl
@[simp] theorem State.modFrame_panelCfg (s : State) (n : Nat) (f : Frame → Frame) (j : PanelId) :
    (s.modFrame n f).panelCfg j = s.panelCfg j := rfl
@[simp] theorem State.modFrame_slot (s : State) (n : Nat) (f : Frame → Frame) (j : SlotId) :
    (s.modFrame n f).slot j = s.slot j := rfl
@[simp] theorem State.modFrame_clip (s : State) (n : Nat) (f : Frame → Frame) (j : ClipId) :
    (s.modFrame n f).clip j = s.clip j := rfl
@[simp] theorem State.post_outlet (s : State) (n : Notice) (j : OutletId) :
    (s.post n).outlet j = s.outlet j := rfl
@[simp] theorem State.post_outletCfg (s : State) (n : Notice) (j : OutletId) :
    (s.post n).outletCfg j = s.outletCfg j := rfl
@[simp] theorem State.post_panel (s : State) (n : Notice) (j : PanelId) :
    (s.post n).panel j = s.panel j := rfl
@[simp] theorem State.post_panelCfg (s : State) (n : Notice) (j : PanelId) :
    (s.post n).panelCfg j = s.panelCfg j := rfl
@[simp] theorem State.post_slot (s : State) (n : Notice) (j : SlotId) :
    (s.post n).slot j = s.slot j := rfl
@[simp] theorem State.post_clip (s : State) (n : Notice) (j : ClipId) :
    (s.post n).clip j = s.clip j := rfl
@[simp] theorem State.transmit_outlet (s : State) (j : OutletId) :
    s.transmit.outlet j = s.outlet j := rfl
@[simp] theorem State.transmit_outletCfg (s : State) (j : OutletId) :
    s.transmit.outletCfg j = s.outletCfg j := rfl
@[simp] theorem State.transmit_panel (s : State) (j : PanelId) :
    s.transmit.panel j = s.panel j := rfl
@[simp] theorem State.transmit_panelCfg (s : State) (j : PanelId) :
    s.transmit.panelCfg j = s.panelCfg j := rfl
@[simp] theorem State.transmit_slot (s : State) (j : SlotId) :
    s.transmit.slot j = s.slot j := rfl
@[simp] theorem State.transmit_clip (s : State) (j : ClipId) :
    s.transmit.clip j = s.clip j := rfl
@[simp] theorem State.withPending_outlet (s : State) (q : List Instr) (j : OutletId) :
    (s.withPending q).outlet j = s.outlet j := rfl
@[simp] theorem State.withPending_outletCfg (s : State) (q : List Instr) (j : OutletId) :
    (s.withPending q).outletCfg j = s.outletCfg j := rfl
@[simp] theorem State.withPending_panel (s : State) (q : List Instr) (j : PanelId) :
    (s.withPending q).panel j = s.panel j := rfl
@[simp] theorem State.withPending_panelCfg (s : State) (q : List Instr) (j : PanelId) :
    (s.withPending q).panelCfg j = s.panelCfg j := rfl
@[simp] theorem State.withPending_slot (s : State) (q : List Instr) (j : SlotId) :
    (s.withPending q).slot j = s.slot j := rfl
@[simp] theorem State.withPending_clip (s : State) (q : List Instr) (j : ClipId) :
    (s.withPending q).clip j = s.clip j := rfl

@[simp] theorem State.count_outlet (s : State) (o j : OutletId) (f : OutletCounters → OutletCounters) :
    (s.count o f).outlet j =
      if o = j then { s.outlet o with counters := f (s.outlet o).counters } else s.outlet j := by
  simp [State.count]

end Sys2Proof.Machine
end

