-- ==== Sys2Proof/Laws/CutFrames.lean ====
section
/-! SUPPORT. Which fields of the state each operation of the Cut Table leaves as they are. -/

namespace Sys2Proof.Machine

@[simp] theorem State.postAll_frame (s : State) (ns : List Notice) :
    (s.postAll ns).store = s.store ∧ (s.postAll ns).ingest = s.ingest ∧ (s.postAll ns).outlets = s.outlets ∧
      (s.postAll ns).cuts = s.cuts ∧ (s.postAll ns).watch = s.watch ∧ (s.postAll ns).bank = s.bank ∧
      (s.postAll ns).panels = s.panels ∧ (s.postAll ns).settings = s.settings ∧ (s.postAll ns).pending = s.pending := by
  unfold State.postAll
  induction ns generalizing s with
  | nil => simp
  | cons n ns ih => simpa using ih (s.post n)

@[simp] theorem State.reportMark_frame (s : State) (o : OutletId) :
    (s.reportMark o).store = s.store ∧ (s.reportMark o).ingest = s.ingest ∧ (s.reportMark o).outlets = s.outlets ∧
      (s.reportMark o).watch = s.watch ∧ (s.reportMark o).bank = s.bank ∧ (s.reportMark o).panels = s.panels ∧
      (s.reportMark o).link = s.link ∧ (s.reportMark o).settings = s.settings ∧ (s.reportMark o).pending = s.pending := by
  simp [State.reportMark]

@[simp] theorem State.applyFates_frame (s : State) (fs : List Fate) :
    (s.applyFates fs).store = s.store ∧ (s.applyFates fs).ingest = s.ingest ∧ (s.applyFates fs).outlets = s.outlets ∧
      (s.applyFates fs).watch = s.watch ∧ (s.applyFates fs).bank = s.bank ∧ (s.applyFates fs).panels = s.panels ∧
      (s.applyFates fs).settings = s.settings ∧ (s.applyFates fs).pending = s.pending := by
  simp [State.applyFates]

@[simp] theorem State.reportOldest_frame (s : State) :
    s.reportOldest.store = s.store ∧ s.reportOldest.ingest = s.ingest ∧ s.reportOldest.outlets = s.outlets ∧
      s.reportOldest.watch = s.watch ∧ s.reportOldest.bank = s.bank ∧ s.reportOldest.panels = s.panels ∧
      s.reportOldest.settings = s.settings ∧ s.reportOldest.pending = s.pending := by
  simp [State.reportOldest]

@[simp] theorem State.closeUnheld_frame (s : State) :
    s.closeUnheld.store = s.store ∧ s.closeUnheld.ingest = s.ingest ∧ s.closeUnheld.outlets = s.outlets ∧
      s.closeUnheld.watch = s.watch ∧ s.closeUnheld.bank = s.bank ∧ s.closeUnheld.panels = s.panels ∧
      s.closeUnheld.settings = s.settings ∧ s.closeUnheld.pending = s.pending := by
  simp [State.closeUnheld]

@[simp] theorem State.lampsOff_frame (s : State) (m c : HolderSet) :
    (s.lampsOff m c).store = s.store ∧ (s.lampsOff m c).ingest = s.ingest ∧ (s.lampsOff m c).outlets = s.outlets ∧
      (s.lampsOff m c).cuts = s.cuts ∧ (s.lampsOff m c).watch = s.watch ∧ (s.lampsOff m c).bank = s.bank ∧
      (s.lampsOff m c).link = s.link ∧ (s.lampsOff m c).settings = s.settings ∧ (s.lampsOff m c).pending = s.pending := by
  simp [State.lampsOff]

@[simp] theorem State.testLimit_frame (s : State) (ds : List Draft) :
    (s.testLimit ds).store = s.store ∧ (s.testLimit ds).ingest = s.ingest ∧ (s.testLimit ds).outlets = s.outlets ∧
      (s.testLimit ds).watch = s.watch ∧ (s.testLimit ds).bank = s.bank ∧ (s.testLimit ds).settings = s.settings ∧
      (s.testLimit ds).pending = s.pending := by
  simp [State.testLimit]

@[simp] theorem State.edgeMoved_frame (s : State) (before : Option Nat) :
    (s.edgeMoved before).store = s.store ∧ (s.edgeMoved before).ingest = s.ingest ∧ (s.edgeMoved before).outlets = s.outlets ∧
      (s.edgeMoved before).watch = s.watch ∧ (s.edgeMoved before).bank = s.bank ∧ (s.edgeMoved before).settings = s.settings ∧
      (s.edgeMoved before).pending = s.pending := by
  simp [State.edgeMoved]

@[simp] theorem State.limitChanged_frame (s : State) :
    s.limitChanged.store = s.store ∧ s.limitChanged.ingest = s.ingest ∧ s.limitChanged.outlets = s.outlets ∧
      s.limitChanged.watch = s.watch ∧ s.limitChanged.bank = s.bank ∧ s.limitChanged.settings = s.settings ∧
      s.limitChanged.pending = s.pending := by
  simp [State.limitChanged]

@[simp] theorem State.finishCut_frame (s : State) (c : ResultCode) (ds : List Draft) :
    (s.finishCut c ds).1.store = s.store ∧ (s.finishCut c ds).1.ingest = s.ingest ∧ (s.finishCut c ds).1.outlets = s.outlets ∧
      (s.finishCut c ds).1.watch = s.watch ∧ (s.finishCut c ds).1.bank = s.bank ∧ (s.finishCut c ds).1.settings = s.settings ∧
      (s.finishCut c ds).1.pending = s.pending := by
  simp only [State.finishCut]
  (repeat' split) <;> simp

@[simp] theorem State.createCut_frame (s : State) (q : CutRequest) :
    (s.createCut q).1.store = s.store ∧ (s.createCut q).1.ingest = s.ingest ∧ (s.createCut q).1.outlets = s.outlets ∧
      (s.createCut q).1.watch = s.watch ∧ (s.createCut q).1.bank = s.bank ∧ (s.createCut q).1.settings = s.settings ∧
      (s.createCut q).1.pending = s.pending := by
  simp only [State.createCut]
  (repeat' split) <;> simp

@[simp] theorem State.refuseCut_frame (s : State) (c : ResultCode) :
    (s.refuseCut c).1.store = s.store ∧ (s.refuseCut c).1.ingest = s.ingest ∧ (s.refuseCut c).1.outlets = s.outlets ∧
      (s.refuseCut c).1.cuts = s.cuts ∧ (s.refuseCut c).1.watch = s.watch ∧ (s.refuseCut c).1.bank = s.bank ∧
      (s.refuseCut c).1.panels = s.panels ∧ (s.refuseCut c).1.link = s.link ∧ (s.refuseCut c).1.settings = s.settings ∧
      (s.refuseCut c).1.pending = s.pending := by
  simp [State.refuseCut]

@[simp] theorem State.createClipped_frame (s : State) (q : CutRequest) :
    (s.createClipped q).1.store = s.store ∧ (s.createClipped q).1.ingest = s.ingest ∧ (s.createClipped q).1.outlets = s.outlets ∧
      (s.createClipped q).1.watch = s.watch ∧ (s.createClipped q).1.bank = s.bank ∧ (s.createClipped q).1.settings = s.settings ∧
      (s.createClipped q).1.pending = s.pending := by
  simp only [State.createClipped]
  (repeat' split) <;> simp

@[simp] theorem State.hostCut_frame (s : State) (k : CutKind) (m : LaneMask) (a : Nat) (b : Option Nat) :
    (s.hostCut k m a b).1.store = s.store ∧ (s.hostCut k m a b).1.ingest = s.ingest ∧ (s.hostCut k m a b).1.outlets = s.outlets ∧
      (s.hostCut k m a b).1.watch = s.watch ∧ (s.hostCut k m a b).1.bank = s.bank ∧ (s.hostCut k m a b).1.settings = s.settings ∧
      (s.hostCut k m a b).1.pending = s.pending := by
  simp only [State.hostCut]
  (repeat' split) <;> simp

@[simp] theorem State.slotCut_frame (s : State) (k : SlotId) (x : CutKind) (m : LaneMask) (n pre post : Nat) :
    (s.slotCut k x m n pre post).1.store = s.store ∧ (s.slotCut k x m n pre post).1.ingest = s.ingest ∧ (s.slotCut k x m n pre post).1.outlets = s.outlets ∧
      (s.slotCut k x m n pre post).1.watch = s.watch ∧ (s.slotCut k x m n pre post).1.bank = s.bank ∧ (s.slotCut k x m n pre post).1.settings = s.settings ∧
      (s.slotCut k x m n pre post).1.pending = s.pending := by
  simp [State.slotCut]

@[simp] theorem State.pressDrop_frame (s : State) (p : PanelId) :
    (s.pressDrop p).1.store = s.store ∧ (s.pressDrop p).1.ingest = s.ingest ∧ (s.pressDrop p).1.outlets = s.outlets ∧
      (s.pressDrop p).1.watch = s.watch ∧ (s.pressDrop p).1.bank = s.bank ∧ (s.pressDrop p).1.settings = s.settings ∧
      (s.pressDrop p).1.pending = s.pending := by
  simp only [State.pressDrop]
  split <;> simp

@[simp] theorem State.pressDropAll_frame (s : State) (p : PanelId) :
    (s.pressDropAll p).1.store = s.store ∧ (s.pressDropAll p).1.ingest = s.ingest ∧ (s.pressDropAll p).1.outlets = s.outlets ∧
      (s.pressDropAll p).1.watch = s.watch ∧ (s.pressDropAll p).1.bank = s.bank ∧ (s.pressDropAll p).1.settings = s.settings ∧
      (s.pressDropAll p).1.pending = s.pending := by
  simp only [State.pressDropAll]
  (repeat' split) <;> simp

@[simp] theorem State.pressHeld_frame (s : State) (p : PanelId) (k : CutKind) (m : LaneMask) :
    (s.pressHeld p k m).1.store = s.store ∧ (s.pressHeld p k m).1.ingest = s.ingest ∧ (s.pressHeld p k m).1.outlets = s.outlets ∧
      (s.pressHeld p k m).1.watch = s.watch ∧ (s.pressHeld p k m).1.bank = s.bank ∧ (s.pressHeld p k m).1.settings = s.settings ∧
      (s.pressHeld p k m).1.pending = s.pending := by
  simp only [State.pressHeld]
  split <;> simp

@[simp] theorem State.letGo_frame (s : State) (p : PanelId) (k : CutKind) :
    (s.letGo p k).1.store = s.store ∧ (s.letGo p k).1.ingest = s.ingest ∧ (s.letGo p k).1.outlets = s.outlets ∧
      (s.letGo p k).1.watch = s.watch ∧ (s.letGo p k).1.bank = s.bank ∧ (s.letGo p k).1.panels = s.panels ∧
      (s.letGo p k).1.settings = s.settings ∧ (s.letGo p k).1.pending = s.pending := by
  simp only [State.letGo]
  split <;> simp

/-- A let go that finds no hold changes nothing (R109). -/
theorem State.letGo_of_noHold {s : State} {p : PanelId} {k : CutKind}
    (h : ∀ r ∈ s.cuts.records, r.isOpen = true → r.kind = k → member r.holders p.val = false) :
    s.letGo p k = (s, none) := by
  have h' : s.cuts.records.find? (fun r => r.isOpen && r.kind == k && member r.holders p.val) = none := by
    rw [List.find?_eq_none]
    intro r hr hc
    simp only [Bool.and_eq_true, beq_iff_eq] at hc
    simp [h r hr hc.1.1 hc.1.2] at hc
  simp [State.letGo, h']

@[simp] theorem State.releaseHolds_frame (s : State) (p : PanelId) :
    (s.releaseHolds p).store = s.store ∧ (s.releaseHolds p).ingest = s.ingest ∧ (s.releaseHolds p).outlets = s.outlets ∧
      (s.releaseHolds p).watch = s.watch ∧ (s.releaseHolds p).bank = s.bank ∧ (s.releaseHolds p).panels = s.panels ∧
      (s.releaseHolds p).settings = s.settings ∧ (s.releaseHolds p).pending = s.pending := by
  simp [State.releaseHolds]

@[simp] theorem State.closeCut_frame (s : State) (id : Nat) :
    (s.closeCut id).1.store = s.store ∧ (s.closeCut id).1.ingest = s.ingest ∧ (s.closeCut id).1.outlets = s.outlets ∧
      (s.closeCut id).1.watch = s.watch ∧ (s.closeCut id).1.bank = s.bank ∧ (s.closeCut id).1.panels = s.panels ∧
      (s.closeCut id).1.settings = s.settings ∧ (s.closeCut id).1.pending = s.pending := by
  simp only [State.closeCut]
  (repeat' split) <;> simp

@[simp] theorem State.cutsStarted_frame (s : State) (o : OutletId) :
    (s.cutsStarted o).store = s.store ∧ (s.cutsStarted o).ingest = s.ingest ∧ (s.cutsStarted o).outlets = s.outlets ∧
      (s.cutsStarted o).watch = s.watch ∧ (s.cutsStarted o).bank = s.bank ∧ (s.cutsStarted o).panels = s.panels ∧
      (s.cutsStarted o).link = s.link ∧ (s.cutsStarted o).settings = s.settings ∧ (s.cutsStarted o).pending = s.pending := by
  simp [State.cutsStarted]

@[simp] theorem State.cutsStopped_frame (s : State) (o : OutletId) :
    (s.cutsStopped o).store = s.store ∧ (s.cutsStopped o).ingest = s.ingest ∧ (s.cutsStopped o).outlets = s.outlets ∧
      (s.cutsStopped o).watch = s.watch ∧ (s.cutsStopped o).bank = s.bank ∧ (s.cutsStopped o).panels = s.panels ∧
      (s.cutsStopped o).link = s.link ∧ (s.cutsStopped o).settings = s.settings ∧ (s.cutsStopped o).pending = s.pending := by
  simp [State.cutsStopped]

end Sys2Proof.Machine
end

