-- ==== Sys2Proof/Laws/StoreFrames.lean ====
section
/-! SUPPORT. Which fields of the state each operation of the Frame Store and the Filler Bank leaves as they are. -/

namespace Sys2Proof.Machine

@[simp] theorem State.release_frame (s : State) :
    s.release.ingest = s.ingest ∧ s.release.outlets = s.outlets ∧ s.release.watch = s.watch ∧
      s.release.bank = s.bank ∧ s.release.panels = s.panels ∧ s.release.settings = s.settings ∧
      s.release.pending = s.pending ∧ s.release.store.filling = s.store.filling := by
  simp only [State.release]
  split <;> simp

@[simp] theorem State.takeFrame_frame (s : State) (o : OutletId) :
    (s.takeFrame o).ingest = s.ingest ∧ (s.takeFrame o).cuts = s.cuts ∧ (s.takeFrame o).watch = s.watch ∧
      (s.takeFrame o).bank = s.bank ∧ (s.takeFrame o).panels = s.panels ∧ (s.takeFrame o).link = s.link ∧
      (s.takeFrame o).settings = s.settings ∧ (s.takeFrame o).pending = s.pending ∧ (s.takeFrame o).store.filling = s.store.filling := by
  simp [State.takeFrame]

@[simp] theorem State.replayFrame_frame (s : State) (n : Nat) :
    (s.replayFrame n).ingest = s.ingest ∧ (s.replayFrame n).outlets = s.outlets ∧ (s.replayFrame n).cuts = s.cuts ∧
      (s.replayFrame n).watch = s.watch ∧ (s.replayFrame n).bank = s.bank ∧ (s.replayFrame n).panels = s.panels ∧
      (s.replayFrame n).link = s.link ∧ (s.replayFrame n).settings = s.settings ∧ (s.replayFrame n).pending = s.pending ∧
      (s.replayFrame n).store.filling = s.store.filling := by
  simp [State.replayFrame]

@[simp] theorem State.passFrame_frame (s : State) (o : OutletId) :
    (s.passFrame o).ingest = s.ingest ∧ (s.passFrame o).watch = s.watch ∧ (s.passFrame o).bank = s.bank ∧
      (s.passFrame o).panels = s.panels ∧ (s.passFrame o).settings = s.settings ∧ (s.passFrame o).pending = s.pending ∧
      (s.passFrame o).store.filling = s.store.filling := by
  simp [State.passFrame]

@[simp] theorem State.passFrames_frame (s : State) (o : OutletId) (k : Nat) :
    (s.passFrames o k).ingest = s.ingest ∧ (s.passFrames o k).watch = s.watch ∧ (s.passFrames o k).bank = s.bank ∧
      (s.passFrames o k).panels = s.panels ∧ (s.passFrames o k).settings = s.settings ∧ (s.passFrames o k).pending = s.pending ∧
      (s.passFrames o k).store.filling = s.store.filling := by
  induction k generalizing s with
  | zero => simp [State.passFrames]
  | succ k ih => simp [State.passFrames, ih]

@[simp] theorem State.endFrame_frame (s : State) (n : Nat) :
    (s.endFrame n).ingest = s.ingest ∧ (s.endFrame n).outlets = s.outlets ∧ (s.endFrame n).watch = s.watch ∧
      (s.endFrame n).bank = s.bank ∧ (s.endFrame n).panels = s.panels ∧ (s.endFrame n).settings = s.settings ∧
      (s.endFrame n).pending = s.pending ∧ (s.endFrame n).store.filling = s.store.filling := by
  simp [State.endFrame]

@[simp] theorem State.leaveOwing_frame (s : State) (o : OutletId) :
    (s.leaveOwing o).ingest = s.ingest ∧ (s.leaveOwing o).outlets = s.outlets ∧ (s.leaveOwing o).cuts = s.cuts ∧
      (s.leaveOwing o).watch = s.watch ∧ (s.leaveOwing o).bank = s.bank ∧ (s.leaveOwing o).panels = s.panels ∧
      (s.leaveOwing o).link = s.link ∧ (s.leaveOwing o).settings = s.settings ∧ (s.leaveOwing o).pending = s.pending ∧
      (s.leaveOwing o).store.filling = s.store.filling := by
  simp [State.leaveOwing]

@[simp] theorem State.joinOwing_frame (s : State) (o : OutletId) :
    (s.joinOwing o).ingest = s.ingest ∧ (s.joinOwing o).outlets = s.outlets ∧ (s.joinOwing o).cuts = s.cuts ∧
      (s.joinOwing o).watch = s.watch ∧ (s.joinOwing o).bank = s.bank ∧ (s.joinOwing o).panels = s.panels ∧
      (s.joinOwing o).link = s.link ∧ (s.joinOwing o).settings = s.settings ∧ (s.joinOwing o).pending = s.pending ∧
      (s.joinOwing o).store.filling = s.store.filling := by
  simp [State.joinOwing]

@[simp] theorem State.dropHolds_frame (s : State) :
    s.dropHolds.ingest = s.ingest ∧ s.dropHolds.outlets = s.outlets ∧ s.dropHolds.cuts = s.cuts ∧
      s.dropHolds.watch = s.watch ∧ s.dropHolds.bank = s.bank ∧ s.dropHolds.panels = s.panels ∧
      s.dropHolds.link = s.link ∧ s.dropHolds.settings = s.settings ∧ s.dropHolds.pending = s.pending ∧
      s.dropHolds.store.filling = s.store.filling := by
  simp [State.dropHolds]

@[simp] theorem State.abortGrab_frame (s : State) (c : AbortCause) :
    (s.abortGrab c).ingest = s.ingest ∧ (s.abortGrab c).outlets = s.outlets ∧ (s.abortGrab c).watch = s.watch ∧
      (s.abortGrab c).panels = s.panels ∧ (s.abortGrab c).settings = s.settings ∧ (s.abortGrab c).pending = s.pending ∧
      (s.abortGrab c).store.filling = s.store.filling := by
  simp only [State.abortGrab]
  split <;> simp

@[simp] theorem State.press_frame (s : State) (v : Nat) (o : OutletId) :
    (s.press v o).store = s.store ∧ (s.press v o).ingest = s.ingest ∧ (s.press v o).watch = s.watch ∧
      (s.press v o).bank = s.bank ∧ (s.press v o).panels = s.panels ∧ (s.press v o).settings = s.settings ∧
      (s.press v o).pending = s.pending := by
  simp [State.press]

@[simp] theorem State.pressAll_frame (s : State) (v : Nat) (os : List OutletId) :
    (os.foldl (fun t o => State.press t v o) s).store = s.store ∧ (os.foldl (fun t o => State.press t v o) s).ingest = s.ingest ∧ (os.foldl (fun t o => State.press t v o) s).watch = s.watch ∧
      (os.foldl (fun t o => State.press t v o) s).bank = s.bank ∧ (os.foldl (fun t o => State.press t v o) s).panels = s.panels ∧ (os.foldl (fun t o => State.press t v o) s).settings = s.settings ∧
      (os.foldl (fun t o => State.press t v o) s).pending = s.pending := by
  induction os generalizing s with
  | nil => simp
  | cons o os ih => simpa using ih (s.press v o)

@[simp] theorem State.evict_frame (s : State) (v : Frame) (rest : List Frame) :
    (s.evict v rest).ingest = s.ingest ∧ (s.evict v rest).watch = s.watch ∧ (s.evict v rest).panels = s.panels ∧
      (s.evict v rest).settings = s.settings ∧ (s.evict v rest).pending = s.pending ∧ (s.evict v rest).store.filling = s.store.filling := by
  simp only [State.evict]
  split <;> simp

@[simp] theorem State.modFilling_frame (s : State) (f : Frame → Frame) :
    (s.modFilling f).ingest = s.ingest ∧ (s.modFilling f).outlets = s.outlets ∧ (s.modFilling f).cuts = s.cuts ∧
      (s.modFilling f).watch = s.watch ∧ (s.modFilling f).bank = s.bank ∧ (s.modFilling f).panels = s.panels ∧
      (s.modFilling f).link = s.link ∧ (s.modFilling f).settings = s.settings ∧ (s.modFilling f).pending = s.pending := by
  simp [State.modFilling]

@[simp] theorem State.useClip_frame (s : State) (c : ClipId) (o : OutletId) :
    (s.useClip c o).store = s.store ∧ (s.useClip c o).ingest = s.ingest ∧ (s.useClip c o).outlets = s.outlets ∧
      (s.useClip c o).cuts = s.cuts ∧ (s.useClip c o).watch = s.watch ∧ (s.useClip c o).panels = s.panels ∧
      (s.useClip c o).link = s.link ∧ (s.useClip c o).settings = s.settings ∧ (s.useClip c o).pending = s.pending := by
  simp [State.useClip]

@[simp] theorem State.endUse_frame (s : State) (c : ClipId) (o : OutletId) :
    (s.endUse c o).store = s.store ∧ (s.endUse c o).ingest = s.ingest ∧ (s.endUse c o).outlets = s.outlets ∧
      (s.endUse c o).cuts = s.cuts ∧ (s.endUse c o).watch = s.watch ∧ (s.endUse c o).panels = s.panels ∧
      (s.endUse c o).link = s.link ∧ (s.endUse c o).settings = s.settings ∧ (s.endUse c o).pending = s.pending := by
  simp [State.endUse]

@[simp] theorem State.nextCopy_frame (s : State) (c : ClipId) (n : Nat) :
    (s.nextCopy c n).store = s.store ∧ (s.nextCopy c n).ingest = s.ingest ∧ (s.nextCopy c n).outlets = s.outlets ∧
      (s.nextCopy c n).cuts = s.cuts ∧ (s.nextCopy c n).watch = s.watch ∧ (s.nextCopy c n).panels = s.panels ∧
      (s.nextCopy c n).settings = s.settings ∧ (s.nextCopy c n).pending = s.pending := by
  simp only [State.nextCopy]
  split <;> simp

@[simp] theorem State.completeCopy_frame (s : State) (c : ClipId) (f : Frame) :
    (s.completeCopy c f).ingest = s.ingest ∧ (s.completeCopy c f).outlets = s.outlets ∧ (s.completeCopy c f).watch = s.watch ∧
      (s.completeCopy c f).panels = s.panels ∧ (s.completeCopy c f).settings = s.settings ∧ (s.completeCopy c f).pending = s.pending ∧
      (s.completeCopy c f).store.filling = s.store.filling := by
  simp [State.completeCopy]

@[simp] theorem State.runCopies_frame (s : State) (k : Nat) :
    (State.runCopies k s).ingest = s.ingest ∧ (State.runCopies k s).outlets = s.outlets ∧ (State.runCopies k s).watch = s.watch ∧
      (State.runCopies k s).panels = s.panels ∧ (State.runCopies k s).settings = s.settings ∧ (State.runCopies k s).pending = s.pending ∧
      (State.runCopies k s).store.filling = s.store.filling := by
  induction k generalizing s with
  | zero => simp [State.runCopies]
  | succ k ih =>
    simp only [State.runCopies]
    (repeat' split) <;> simp [ih]

@[simp] theorem State.copyPage_frame (s : State) (c : ClipId) (n d : Nat) (p : Page) :
    (s.copyPage c n d p).store = s.store ∧ (s.copyPage c n d p).ingest = s.ingest ∧ (s.copyPage c n d p).outlets = s.outlets ∧
      (s.copyPage c n d p).cuts = s.cuts ∧ (s.copyPage c n d p).watch = s.watch ∧ (s.copyPage c n d p).panels = s.panels ∧
      (s.copyPage c n d p).link = s.link ∧ (s.copyPage c n d p).settings = s.settings ∧ (s.copyPage c n d p).pending = s.pending := by
  simp [State.copyPage]

@[simp] theorem State.copyNextPage_frame (s : State) :
    s.copyNextPage.ingest = s.ingest ∧ s.copyNextPage.outlets = s.outlets ∧ s.copyNextPage.watch = s.watch ∧
      s.copyNextPage.panels = s.panels ∧ s.copyNextPage.settings = s.settings ∧ s.copyNextPage.pending = s.pending ∧
      s.copyNextPage.store.filling = s.store.filling := by
  simp only [State.copyNextPage]
  (repeat' split) <;> simp

@[simp] theorem State.startGrab_frame (s : State) (c : ClipId) (a n : Nat) :
    (s.startGrab c a n).ingest = s.ingest ∧ (s.startGrab c a n).outlets = s.outlets ∧ (s.startGrab c a n).watch = s.watch ∧
      (s.startGrab c a n).panels = s.panels ∧ (s.startGrab c a n).settings = s.settings ∧ (s.startGrab c a n).pending = s.pending ∧
      (s.startGrab c a n).store.filling = s.store.filling := by
  simp [State.startGrab]

@[simp] theorem State.clearClip_frame (s : State) (c : ClipId) :
    (s.clearClip c).1.ingest = s.ingest ∧ (s.clearClip c).1.outlets = s.outlets ∧ (s.clearClip c).1.watch = s.watch ∧
      (s.clearClip c).1.panels = s.panels ∧ (s.clearClip c).1.settings = s.settings ∧ (s.clearClip c).1.pending = s.pending ∧
      (s.clearClip c).1.store.filling = s.store.filling := by
  simp only [State.clearClip]
  (repeat' split) <;> simp

end Sys2Proof.Machine
end

