-- ==== Sys2Proof/Laws/OutletFrames.lean ====
section
/-! SUPPORT. Which fields of the state each operation of the Outlet Units leaves as they are. -/

namespace Sys2Proof.Machine

@[simp] theorem State.changeOutlet_frame (s : State) (o : OutletId) (x : OutletState) :
    (s.changeOutlet o x).store = s.store ∧ (s.changeOutlet o x).ingest = s.ingest ∧ (s.changeOutlet o x).cuts = s.cuts ∧
      (s.changeOutlet o x).watch = s.watch ∧ (s.changeOutlet o x).bank = s.bank ∧ (s.changeOutlet o x).panels = s.panels ∧
      (s.changeOutlet o x).settings = s.settings ∧ (s.changeOutlet o x).pending = s.pending := by
  simp [State.changeOutlet]

@[simp] theorem State.endAtOwner_frame (s : State) (o : OutletId) (x : InFlight) :
    (s.endAtOwner o x).ingest = s.ingest ∧ (s.endAtOwner o x).outlets = s.outlets ∧ (s.endAtOwner o x).watch = s.watch ∧
      (s.endAtOwner o x).panels = s.panels ∧ (s.endAtOwner o x).settings = s.settings ∧ (s.endAtOwner o x).pending = s.pending ∧
      (s.endAtOwner o x).store.filling = s.store.filling := by
  cases x <;> simp [State.endAtOwner]

@[simp] theorem State.endFlight_frame (s : State) (o : OutletId) :
    (s.endFlight o).ingest = s.ingest ∧ (s.endFlight o).watch = s.watch ∧ (s.endFlight o).panels = s.panels ∧
      (s.endFlight o).settings = s.settings ∧ (s.endFlight o).pending = s.pending ∧ (s.endFlight o).store.filling = s.store.filling := by
  simp [State.endFlight]

@[simp] theorem State.setFlight_frame (s : State) (o : OutletId) (x : InFlight) :
    (s.setFlight o x).store = s.store ∧ (s.setFlight o x).ingest = s.ingest ∧ (s.setFlight o x).cuts = s.cuts ∧
      (s.setFlight o x).watch = s.watch ∧ (s.setFlight o x).bank = s.bank ∧ (s.setFlight o x).panels = s.panels ∧
      (s.setFlight o x).link = s.link ∧ (s.setFlight o x).settings = s.settings ∧ (s.setFlight o x).pending = s.pending := by
  simp [State.setFlight]

@[simp] theorem State.settleMute_frame (s : State) (o : OutletId) :
    (s.settleMute o).store = s.store ∧ (s.settleMute o).ingest = s.ingest ∧ (s.settleMute o).cuts = s.cuts ∧
      (s.settleMute o).watch = s.watch ∧ (s.settleMute o).bank = s.bank ∧ (s.settleMute o).panels = s.panels ∧
      (s.settleMute o).link = s.link ∧ (s.settleMute o).settings = s.settings ∧ (s.settleMute o).pending = s.pending := by
  simp only [State.settleMute]
  split <;> simp

@[simp] theorem State.emitFiller_frame (s : State) (o : OutletId) :
    (s.emitFiller o).store = s.store ∧ (s.emitFiller o).ingest = s.ingest ∧ (s.emitFiller o).cuts = s.cuts ∧
      (s.emitFiller o).watch = s.watch ∧ (s.emitFiller o).panels = s.panels ∧ (s.emitFiller o).link = s.link ∧
      (s.emitFiller o).settings = s.settings ∧ (s.emitFiller o).pending = s.pending := by
  simp only [State.emitFiller]
  split <;> simp

@[simp] theorem State.fillerPeriod_frame (s : State) (o : OutletId) :
    (s.fillerPeriod o).store = s.store ∧ (s.fillerPeriod o).ingest = s.ingest ∧ (s.fillerPeriod o).cuts = s.cuts ∧
      (s.fillerPeriod o).watch = s.watch ∧ (s.fillerPeriod o).panels = s.panels ∧ (s.fillerPeriod o).link = s.link ∧
      (s.fillerPeriod o).settings = s.settings ∧ (s.fillerPeriod o).pending = s.pending := by
  simp [State.fillerPeriod]

@[simp] theorem State.blackPeriod_frame (s : State) (o : OutletId) :
    (s.blackPeriod o).store = s.store ∧ (s.blackPeriod o).ingest = s.ingest ∧ (s.blackPeriod o).cuts = s.cuts ∧
      (s.blackPeriod o).watch = s.watch ∧ (s.blackPeriod o).bank = s.bank ∧ (s.blackPeriod o).panels = s.panels ∧
      (s.blackPeriod o).link = s.link ∧ (s.blackPeriod o).settings = s.settings ∧ (s.blackPeriod o).pending = s.pending := by
  simp [State.blackPeriod]

@[simp] theorem State.beginEpisode_frame (s : State) (o : OutletId) :
    (s.beginEpisode o).store = s.store ∧ (s.beginEpisode o).ingest = s.ingest ∧ (s.beginEpisode o).cuts = s.cuts ∧
      (s.beginEpisode o).watch = s.watch ∧ (s.beginEpisode o).bank = s.bank ∧ (s.beginEpisode o).panels = s.panels ∧
      (s.beginEpisode o).settings = s.settings ∧ (s.beginEpisode o).pending = s.pending := by
  simp only [State.beginEpisode]
  split <;> simp

@[simp] theorem State.underrun_frame (s : State) (o : OutletId) :
    (s.underrun o).store = s.store ∧ (s.underrun o).ingest = s.ingest ∧ (s.underrun o).cuts = s.cuts ∧
      (s.underrun o).watch = s.watch ∧ (s.underrun o).panels = s.panels ∧ (s.underrun o).settings = s.settings ∧
      (s.underrun o).pending = s.pending := by
  simp [State.underrun]

@[simp] theorem State.dropPasses_frame (s : State) (o : OutletId) (k : Nat) :
    (State.dropPasses o k s).ingest = s.ingest ∧ (State.dropPasses o k s).watch = s.watch ∧ (State.dropPasses o k s).bank = s.bank ∧
      (State.dropPasses o k s).panels = s.panels ∧ (State.dropPasses o k s).settings = s.settings ∧ (State.dropPasses o k s).pending = s.pending ∧
      (State.dropPasses o k s).store.filling = s.store.filling := by
  induction k generalizing s with
  | zero => simp [State.dropPasses]
  | succ k ih =>
    simp only [State.dropPasses]
    split <;> simp [ih]

@[simp] theorem State.dropRun_frame (s : State) (o : OutletId) :
    (s.dropRun o).ingest = s.ingest ∧ (s.dropRun o).watch = s.watch ∧ (s.dropRun o).bank = s.bank ∧
      (s.dropRun o).panels = s.panels ∧ (s.dropRun o).settings = s.settings ∧ (s.dropRun o).pending = s.pending ∧
      (s.dropRun o).store.filling = s.store.filling := by
  simp only [State.dropRun]
  split <;> simp

@[simp] theorem State.coverFrame_frame (s : State) (o : OutletId) :
    (s.coverFrame o).ingest = s.ingest ∧ (s.coverFrame o).watch = s.watch ∧ (s.coverFrame o).panels = s.panels ∧
      (s.coverFrame o).settings = s.settings ∧ (s.coverFrame o).pending = s.pending ∧ (s.coverFrame o).store.filling = s.store.filling := by
  simp [State.coverFrame]

@[simp] theorem State.airFrame_frame (s : State) (o : OutletId) :
    (s.airFrame o).ingest = s.ingest ∧ (s.airFrame o).watch = s.watch ∧ (s.airFrame o).bank = s.bank ∧
      (s.airFrame o).panels = s.panels ∧ (s.airFrame o).link = s.link ∧ (s.airFrame o).settings = s.settings ∧
      (s.airFrame o).pending = s.pending ∧ (s.airFrame o).store.filling = s.store.filling := by
  simp [State.airFrame]

@[simp] theorem State.takeOrCover_frame (s : State) (o : OutletId) :
    (s.takeOrCover o).ingest = s.ingest ∧ (s.takeOrCover o).watch = s.watch ∧ (s.takeOrCover o).panels = s.panels ∧
      (s.takeOrCover o).settings = s.settings ∧ (s.takeOrCover o).pending = s.pending ∧ (s.takeOrCover o).store.filling = s.store.filling := by
  simp only [State.takeOrCover]
  (repeat' split) <;> simp

@[simp] theorem State.programChoice_frame (s : State) (o : OutletId) :
    (s.programChoice o).ingest = s.ingest ∧ (s.programChoice o).watch = s.watch ∧ (s.programChoice o).panels = s.panels ∧
      (s.programChoice o).settings = s.settings ∧ (s.programChoice o).pending = s.pending ∧ (s.programChoice o).store.filling = s.store.filling := by
  simp [State.programChoice]

@[simp] theorem State.countInsertion_frame (s : State) (o : OutletId) :
    (s.countInsertion o).store = s.store ∧ (s.countInsertion o).ingest = s.ingest ∧ (s.countInsertion o).cuts = s.cuts ∧
      (s.countInsertion o).watch = s.watch ∧ (s.countInsertion o).bank = s.bank ∧ (s.countInsertion o).panels = s.panels ∧
      (s.countInsertion o).link = s.link ∧ (s.countInsertion o).settings = s.settings ∧ (s.countInsertion o).pending = s.pending := by
  simp [State.countInsertion]

@[simp] theorem State.countRemoval_frame (s : State) (o : OutletId) :
    (s.countRemoval o).store = s.store ∧ (s.countRemoval o).ingest = s.ingest ∧ (s.countRemoval o).cuts = s.cuts ∧
      (s.countRemoval o).watch = s.watch ∧ (s.countRemoval o).bank = s.bank ∧ (s.countRemoval o).panels = s.panels ∧
      (s.countRemoval o).link = s.link ∧ (s.countRemoval o).settings = s.settings ∧ (s.countRemoval o).pending = s.pending := by
  simp [State.countRemoval]

@[simp] theorem State.countForced_frame (s : State) (o : OutletId) :
    (s.countForced o).store = s.store ∧ (s.countForced o).ingest = s.ingest ∧ (s.countForced o).cuts = s.cuts ∧
      (s.countForced o).watch = s.watch ∧ (s.countForced o).bank = s.bank ∧ (s.countForced o).panels = s.panels ∧
      (s.countForced o).link = s.link ∧ (s.countForced o).settings = s.settings ∧ (s.countForced o).pending = s.pending := by
  simp [State.countForced]

@[simp] theorem State.pauseInsertion_frame (s : State) (o : OutletId) :
    (s.pauseInsertion o).ingest = s.ingest ∧ (s.pauseInsertion o).cuts = s.cuts ∧ (s.pauseInsertion o).watch = s.watch ∧
      (s.pauseInsertion o).panels = s.panels ∧ (s.pauseInsertion o).link = s.link ∧ (s.pauseInsertion o).settings = s.settings ∧
      (s.pauseInsertion o).pending = s.pending ∧ (s.pauseInsertion o).store.filling = s.store.filling := by
  simp only [State.pauseInsertion]
  split <;> simp

@[simp] theorem State.repeatLast_frame (s : State) (o : OutletId) :
    (s.repeatLast o).ingest = s.ingest ∧ (s.repeatLast o).cuts = s.cuts ∧ (s.repeatLast o).watch = s.watch ∧
      (s.repeatLast o).bank = s.bank ∧ (s.repeatLast o).panels = s.panels ∧ (s.repeatLast o).link = s.link ∧
      (s.repeatLast o).settings = s.settings ∧ (s.repeatLast o).pending = s.pending ∧ (s.repeatLast o).store.filling = s.store.filling := by
  simp only [State.repeatLast]
  (repeat' split) <;> simp

@[simp] theorem State.forcedInsertion_frame (s : State) (o : OutletId) :
    (s.forcedInsertion o).ingest = s.ingest ∧ (s.forcedInsertion o).cuts = s.cuts ∧ (s.forcedInsertion o).watch = s.watch ∧
      (s.forcedInsertion o).panels = s.panels ∧ (s.forcedInsertion o).link = s.link ∧ (s.forcedInsertion o).settings = s.settings ∧
      (s.forcedInsertion o).pending = s.pending ∧ (s.forcedInsertion o).store.filling = s.store.filling := by
  simp only [State.forcedInsertion]
  split <;> simp

@[simp] theorem State.removal_frame (s : State) (o : OutletId) :
    (s.removal o).ingest = s.ingest ∧ (s.removal o).watch = s.watch ∧ (s.removal o).panels = s.panels ∧
      (s.removal o).settings = s.settings ∧ (s.removal o).pending = s.pending ∧ (s.removal o).store.filling = s.store.filling := by
  simp [State.removal]

@[simp] theorem State.rebuild_frame (s : State) (o : OutletId) :
    (s.rebuild o).ingest = s.ingest ∧ (s.rebuild o).watch = s.watch ∧ (s.rebuild o).panels = s.panels ∧
      (s.rebuild o).settings = s.settings ∧ (s.rebuild o).pending = s.pending ∧ (s.rebuild o).store.filling = s.store.filling := by
  simp only [State.rebuild]
  (repeat' split) <;> simp

@[simp] theorem State.squeeze_frame (s : State) (o : OutletId) :
    (s.squeeze o).ingest = s.ingest ∧ (s.squeeze o).watch = s.watch ∧ (s.squeeze o).panels = s.panels ∧
      (s.squeeze o).settings = s.settings ∧ (s.squeeze o).pending = s.pending ∧ (s.squeeze o).store.filling = s.store.filling := by
  simp only [State.squeeze]
  (repeat' split) <;> simp

@[simp] theorem State.clearExposure_frame (s : State) (o : OutletId) :
    (s.clearExposure o).store = s.store ∧ (s.clearExposure o).ingest = s.ingest ∧ (s.clearExposure o).cuts = s.cuts ∧
      (s.clearExposure o).watch = s.watch ∧ (s.clearExposure o).bank = s.bank ∧ (s.clearExposure o).panels = s.panels ∧
      (s.clearExposure o).link = s.link ∧ (s.clearExposure o).settings = s.settings ∧ (s.clearExposure o).pending = s.pending := by
  simp only [State.clearExposure]
  split <;> simp

@[simp] theorem State.stateChoice_frame (s : State) (o : OutletId) :
    (s.stateChoice o).store = s.store ∧ (s.stateChoice o).ingest = s.ingest ∧ (s.stateChoice o).cuts = s.cuts ∧
      (s.stateChoice o).watch = s.watch ∧ (s.stateChoice o).bank = s.bank ∧ (s.stateChoice o).panels = s.panels ∧
      (s.stateChoice o).settings = s.settings ∧ (s.stateChoice o).pending = s.pending := by
  simp only [State.stateChoice]
  split <;> simp

@[simp] theorem State.fallDue_frame (s : State) (o : OutletId) :
    (s.fallDue o).store = s.store ∧ (s.fallDue o).ingest = s.ingest ∧ (s.fallDue o).cuts = s.cuts ∧
      (s.fallDue o).watch = s.watch ∧ (s.fallDue o).bank = s.bank ∧ (s.fallDue o).panels = s.panels ∧
      (s.fallDue o).link = s.link ∧ (s.fallDue o).settings = s.settings ∧ (s.fallDue o).pending = s.pending := by
  simp [State.fallDue]

@[simp] theorem State.dueStep_frame (s : State) (o : OutletId) :
    (s.dueStep o).store = s.store ∧ (s.dueStep o).ingest = s.ingest ∧ (s.dueStep o).cuts = s.cuts ∧
      (s.dueStep o).watch = s.watch ∧ (s.dueStep o).bank = s.bank ∧ (s.dueStep o).panels = s.panels ∧
      (s.dueStep o).link = s.link ∧ (s.dueStep o).settings = s.settings ∧ (s.dueStep o).pending = s.pending := by
  simp only [State.dueStep]
  split <;> simp

@[simp] theorem State.emitPeriod_frame (s : State) (o : OutletId) :
    (s.emitPeriod o).ingest = s.ingest ∧ (s.emitPeriod o).watch = s.watch ∧ (s.emitPeriod o).panels = s.panels ∧
      (s.emitPeriod o).settings = s.settings ∧ (s.emitPeriod o).pending = s.pending ∧ (s.emitPeriod o).store.filling = s.store.filling := by
  simp only [State.emitPeriod]
  split <;> simp

@[simp] theorem State.runPeriod_frame (s : State) (o : OutletId) :
    (s.runPeriod o).ingest = s.ingest ∧ (s.runPeriod o).watch = s.watch ∧ (s.runPeriod o).panels = s.panels ∧
      (s.runPeriod o).settings = s.settings ∧ (s.runPeriod o).pending = s.pending ∧ (s.runPeriod o).store.filling = s.store.filling := by
  simp [State.runPeriod]

@[simp] theorem State.periodStart_frame (s : State) (o : OutletId) :
    (s.periodStart o).ingest = s.ingest ∧ (s.periodStart o).watch = s.watch ∧ (s.periodStart o).panels = s.panels ∧
      (s.periodStart o).settings = s.settings ∧ (s.periodStart o).pending = s.pending ∧ (s.periodStart o).store.filling = s.store.filling := by
  simp only [State.periodStart]
  split <;> simp

@[simp] theorem State.quarterBoundary_frame (s : State) (o : OutletId) (q : BitVec 2) :
    (s.quarterBoundary o q).store = s.store ∧ (s.quarterBoundary o q).ingest = s.ingest ∧ (s.quarterBoundary o q).cuts = s.cuts ∧
      (s.quarterBoundary o q).watch = s.watch ∧ (s.quarterBoundary o q).bank = s.bank ∧ (s.quarterBoundary o q).panels = s.panels ∧
      (s.quarterBoundary o q).link = s.link ∧ (s.quarterBoundary o q).settings = s.settings ∧ (s.quarterBoundary o q).pending = s.pending := by
  simp only [State.quarterBoundary]
  split <;> simp

@[simp] theorem State.adjustmentFallsDue_frame (s : State) (o : OutletId) :
    (s.adjustmentFallsDue o).store = s.store ∧ (s.adjustmentFallsDue o).ingest = s.ingest ∧ (s.adjustmentFallsDue o).cuts = s.cuts ∧
      (s.adjustmentFallsDue o).watch = s.watch ∧ (s.adjustmentFallsDue o).bank = s.bank ∧ (s.adjustmentFallsDue o).panels = s.panels ∧
      (s.adjustmentFallsDue o).link = s.link ∧ (s.adjustmentFallsDue o).settings = s.settings ∧ (s.adjustmentFallsDue o).pending = s.pending := by
  simp only [State.adjustmentFallsDue]
  split <;> simp

theorem State.adjustmentFallsDue_of_lost {s : State} {o : OutletId} (h : (s.outlet o).sink = .lost) :
    s.adjustmentFallsDue o = s := by
  simp [State.adjustmentFallsDue, State.dueHeard, h]

theorem State.adjustmentFallsDue_of_noFlight {s : State} {o : OutletId} (h : (s.outlet o).inFlight = .none) :
    s.adjustmentFallsDue o = s := by
  simp [State.adjustmentFallsDue, State.dueHeard, h]

@[simp] theorem State.sinkLost_frame (s : State) (o : OutletId) :
    (s.sinkLost o).ingest = s.ingest ∧ (s.sinkLost o).watch = s.watch ∧ (s.sinkLost o).panels = s.panels ∧
      (s.sinkLost o).settings = s.settings ∧ (s.sinkLost o).pending = s.pending ∧ (s.sinkLost o).store.filling = s.store.filling := by
  simp only [State.sinkLost]
  (repeat' split) <;> simp

@[simp] theorem State.rejoin_frame (s : State) (o : OutletId) :
    (s.rejoin o).ingest = s.ingest ∧ (s.rejoin o).watch = s.watch ∧ (s.rejoin o).bank = s.bank ∧
      (s.rejoin o).panels = s.panels ∧ (s.rejoin o).settings = s.settings ∧ (s.rejoin o).pending = s.pending ∧
      (s.rejoin o).store.filling = s.store.filling := by
  simp only [State.rejoin]
  split <;> simp

@[simp] theorem State.sinkReturned_frame (s : State) (o : OutletId) :
    (s.sinkReturned o).ingest = s.ingest ∧ (s.sinkReturned o).watch = s.watch ∧ (s.sinkReturned o).bank = s.bank ∧
      (s.sinkReturned o).panels = s.panels ∧ (s.sinkReturned o).settings = s.settings ∧ (s.sinkReturned o).pending = s.pending ∧
      (s.sinkReturned o).store.filling = s.store.filling := by
  simp only [State.sinkReturned]
  (repeat' split) <;> simp

@[simp] theorem State.damageFrame_frame (s : State) (n : Nat) (r : Reader) :
    (s.damageFrame n r).ingest = s.ingest ∧ (s.damageFrame n r).outlets = s.outlets ∧ (s.damageFrame n r).cuts = s.cuts ∧
      (s.damageFrame n r).watch = s.watch ∧ (s.damageFrame n r).bank = s.bank ∧ (s.damageFrame n r).panels = s.panels ∧
      (s.damageFrame n r).settings = s.settings ∧ (s.damageFrame n r).pending = s.pending ∧ (s.damageFrame n r).store.filling = s.store.filling := by
  simp only [State.damageFrame]
  (repeat' split) <;> simp

@[simp] theorem State.loseData_frame (s : State) (o : OutletId) :
    (s.loseData o).store = s.store ∧ (s.loseData o).ingest = s.ingest ∧ (s.loseData o).cuts = s.cuts ∧
      (s.loseData o).watch = s.watch ∧ (s.loseData o).bank = s.bank ∧ (s.loseData o).panels = s.panels ∧
      (s.loseData o).link = s.link ∧ (s.loseData o).settings = s.settings ∧ (s.loseData o).pending = s.pending := by
  simp [State.loseData]

@[simp] theorem State.storeReadError_frame (s : State) (r : Reader) :
    (s.storeReadError r).ingest = s.ingest ∧ (s.storeReadError r).watch = s.watch ∧ (s.storeReadError r).panels = s.panels ∧
      (s.storeReadError r).settings = s.settings ∧ (s.storeReadError r).pending = s.pending ∧ (s.storeReadError r).store.filling = s.store.filling := by
  simp only [State.storeReadError]
  (repeat' split) <;> simp

@[simp] theorem State.fillerReadError_frame (s : State) (o : OutletId) :
    (s.fillerReadError o).store = s.store ∧ (s.fillerReadError o).ingest = s.ingest ∧ (s.fillerReadError o).cuts = s.cuts ∧
      (s.fillerReadError o).watch = s.watch ∧ (s.fillerReadError o).bank = s.bank ∧ (s.fillerReadError o).panels = s.panels ∧
      (s.fillerReadError o).link = s.link ∧ (s.fillerReadError o).settings = s.settings ∧ (s.fillerReadError o).pending = s.pending := by
  simp only [State.fillerReadError]
  split <;> simp

@[simp] theorem State.startOutlet_frame (s : State) (o : OutletId) (m : StartMode) (k : Nat) :
    (s.startOutlet o m k).ingest = s.ingest ∧ (s.startOutlet o m k).watch = s.watch ∧ (s.startOutlet o m k).bank = s.bank ∧
      (s.startOutlet o m k).panels = s.panels ∧ (s.startOutlet o m k).settings = s.settings ∧ (s.startOutlet o m k).pending = s.pending ∧
      (s.startOutlet o m k).store.filling = s.store.filling := by
  simp only [State.startOutlet]
  split <;> simp

@[simp] theorem State.stopOutlet_frame (s : State) (o : OutletId) :
    (s.stopOutlet o).ingest = s.ingest ∧ (s.stopOutlet o).watch = s.watch ∧ (s.stopOutlet o).bank = s.bank ∧
      (s.stopOutlet o).panels = s.panels ∧ (s.stopOutlet o).settings = s.settings ∧ (s.stopOutlet o).pending = s.pending ∧
      (s.stopOutlet o).store.filling = s.store.filling := by
  simp [State.stopOutlet]

@[simp] theorem State.limitDeferred_frame (s : State) (o : OutletId) :
    (s.limitDeferred o).store = s.store ∧ (s.limitDeferred o).ingest = s.ingest ∧ (s.limitDeferred o).cuts = s.cuts ∧
      (s.limitDeferred o).watch = s.watch ∧ (s.limitDeferred o).bank = s.bank ∧ (s.limitDeferred o).panels = s.panels ∧
      (s.limitDeferred o).link = s.link ∧ (s.limitDeferred o).settings = s.settings ∧ (s.limitDeferred o).pending = s.pending := by
  simp only [State.limitDeferred]
  split <;> simp

@[simp] theorem State.setTarget_frame (s : State) (o : OutletId) (n : Nat) :
    (s.setTarget o n).store = s.store ∧ (s.setTarget o n).ingest = s.ingest ∧ (s.setTarget o n).cuts = s.cuts ∧
      (s.setTarget o n).watch = s.watch ∧ (s.setTarget o n).bank = s.bank ∧ (s.setTarget o n).panels = s.panels ∧
      (s.setTarget o n).link = s.link ∧ (s.setTarget o n).pending = s.pending := by
  simp [State.setTarget]

@[simp] theorem State.setFloor_frame (s : State) (o : OutletId) (n : Nat) :
    (s.setFloor o n).store = s.store ∧ (s.setFloor o n).ingest = s.ingest ∧ (s.setFloor o n).cuts = s.cuts ∧
      (s.setFloor o n).watch = s.watch ∧ (s.setFloor o n).bank = s.bank ∧ (s.setFloor o n).panels = s.panels ∧
      (s.setFloor o n).link = s.link ∧ (s.setFloor o n).pending = s.pending := by
  simp only [State.setFloor]
  split <;> simp

@[simp] theorem State.decideFloor_frame (s : State) (o : OutletId) (n : Nat) :
    (s.decideFloor o n).1.store = s.store ∧ (s.decideFloor o n).1.ingest = s.ingest ∧ (s.decideFloor o n).1.cuts = s.cuts ∧
      (s.decideFloor o n).1.watch = s.watch ∧ (s.decideFloor o n).1.bank = s.bank ∧ (s.decideFloor o n).1.panels = s.panels ∧
      (s.decideFloor o n).1.link = s.link ∧ (s.decideFloor o n).1.pending = s.pending := by
  simp only [State.decideFloor]
  (repeat' split) <;> simp

@[simp] theorem State.setShape_frame (s : State) (o : OutletId) (a b : Nat) :
    (s.setShape o a b).store = s.store ∧ (s.setShape o a b).ingest = s.ingest ∧ (s.setShape o a b).cuts = s.cuts ∧
      (s.setShape o a b).watch = s.watch ∧ (s.setShape o a b).bank = s.bank ∧ (s.setShape o a b).panels = s.panels ∧
      (s.setShape o a b).link = s.link ∧ (s.setShape o a b).pending = s.pending := by
  simp [State.setShape]

@[simp] theorem State.setClip_frame (s : State) (o : OutletId) (c : ClipId) :
    (s.setClip o c).store = s.store ∧ (s.setClip o c).ingest = s.ingest ∧ (s.setClip o c).cuts = s.cuts ∧
      (s.setClip o c).watch = s.watch ∧ (s.setClip o c).bank = s.bank ∧ (s.setClip o c).panels = s.panels ∧
      (s.setClip o c).link = s.link ∧ (s.setClip o c).pending = s.pending := by
  simp [State.setClip]

end Sys2Proof.Machine
end

