-- ==== Sys2Proof/Laws/IngestFrames.lean ====
section
/-! SUPPORT. Which fields of the state each operation of the Watch Unit and the Ingest Unit leaves as they are. -/

namespace Sys2Proof.Machine

@[simp] theorem State.reportTake_frame (s : State) (k : SlotId) (x : Item) (l : Bool) (r : ActionResult) (d : ResultDetail) :
    (s.reportTake k x l r d).store = s.store ∧ (s.reportTake k x l r d).ingest = s.ingest ∧ (s.reportTake k x l r d).outlets = s.outlets ∧
      (s.reportTake k x l r d).cuts = s.cuts ∧ (s.reportTake k x l r d).bank = s.bank ∧ (s.reportTake k x l r d).panels = s.panels ∧
      (s.reportTake k x l r d).settings = s.settings ∧ (s.reportTake k x l r d).pending = s.pending := by
  simp [State.reportTake]

@[simp] theorem State.enqueueAction_frame (s : State) (k : SlotId) (x : Item) (l : Bool) (a : WatchAction) (m : OutletSet) :
    (s.enqueueAction k x l a m).store = s.store ∧ (s.enqueueAction k x l a m).ingest = s.ingest ∧ (s.enqueueAction k x l a m).outlets = s.outlets ∧
      (s.enqueueAction k x l a m).cuts = s.cuts ∧ (s.enqueueAction k x l a m).bank = s.bank ∧ (s.enqueueAction k x l a m).panels = s.panels ∧
      (s.enqueueAction k x l a m).link = s.link ∧ (s.enqueueAction k x l a m).settings = s.settings ∧ (s.enqueueAction k x l a m).pending = s.pending := by
  simp [State.enqueueAction]

@[simp] theorem State.startAction_frame (s : State) (k : SlotId) (x : Item) (l : Bool) (a : WatchAction) :
    (s.startAction k x l a).store = s.store ∧ (s.startAction k x l a).ingest = s.ingest ∧ (s.startAction k x l a).outlets = s.outlets ∧
      (s.startAction k x l a).cuts = s.cuts ∧ (s.startAction k x l a).bank = s.bank ∧ (s.startAction k x l a).panels = s.panels ∧
      (s.startAction k x l a).settings = s.settings ∧ (s.startAction k x l a).pending = s.pending := by
  simp only [State.startAction]
  (repeat' split) <;> simp

@[simp] theorem State.slotTake_frame (s : State) (k : SlotId) (x : Item) :
    (s.slotTake k x).store = s.store ∧ (s.slotTake k x).ingest = s.ingest ∧ (s.slotTake k x).outlets = s.outlets ∧
      (s.slotTake k x).cuts = s.cuts ∧ (s.slotTake k x).bank = s.bank ∧ (s.slotTake k x).panels = s.panels ∧
      (s.slotTake k x).settings = s.settings ∧ (s.slotTake k x).pending = s.pending := by
  simp only [State.slotTake]
  split <;> simp

@[simp] theorem State.offer_frame (s : State) (x : Item) :
    (s.offer x).store = s.store ∧ (s.offer x).ingest = s.ingest ∧ (s.offer x).outlets = s.outlets ∧
      (s.offer x).cuts = s.cuts ∧ (s.offer x).bank = s.bank ∧ (s.offer x).panels = s.panels ∧
      (s.offer x).settings = s.settings ∧ (s.offer x).pending = s.pending := by
  simp only [State.offer]
  split <;> simp

@[simp] theorem State.offerAll_frame (s : State) (xs : List Item) :
    (s.offerAll xs).store = s.store ∧ (s.offerAll xs).ingest = s.ingest ∧ (s.offerAll xs).outlets = s.outlets ∧
      (s.offerAll xs).cuts = s.cuts ∧ (s.offerAll xs).bank = s.bank ∧ (s.offerAll xs).panels = s.panels ∧
      (s.offerAll xs).settings = s.settings ∧ (s.offerAll xs).pending = s.pending := by
  unfold State.offerAll
  induction xs generalizing s with
  | nil => simp
  | cons x xs ih => simpa using ih (s.offer x)

@[simp] theorem State.answerEntry_frame (s : State) (i : Nat) (e : ActionEntry) (r : ActionResult) (d : ResultDetail) :
    (s.answerEntry i e r d).store = s.store ∧ (s.answerEntry i e r d).ingest = s.ingest ∧ (s.answerEntry i e r d).outlets = s.outlets ∧
      (s.answerEntry i e r d).cuts = s.cuts ∧ (s.answerEntry i e r d).bank = s.bank ∧ (s.answerEntry i e r d).panels = s.panels ∧
      (s.answerEntry i e r d).settings = s.settings ∧ (s.answerEntry i e r d).pending = s.pending := by
  simp only [State.answerEntry]
  split <;> simp

@[simp] theorem State.watchCut_frame (s : State) :
    s.watchCut.store = s.store ∧ s.watchCut.ingest = s.ingest ∧ s.watchCut.outlets = s.outlets ∧
      s.watchCut.bank = s.bank ∧ s.watchCut.settings = s.settings ∧ s.watchCut.pending = s.pending := by
  simp only [State.watchCut]
  (repeat' split) <;> simp

@[simp] theorem State.takeRetarget_frame (s : State) (o : OutletId) (n : Nat) :
    (s.takeRetarget o n).store = s.store ∧ (s.takeRetarget o n).ingest = s.ingest ∧ (s.takeRetarget o n).cuts = s.cuts ∧
      (s.takeRetarget o n).watch = s.watch ∧ (s.takeRetarget o n).bank = s.bank ∧ (s.takeRetarget o n).panels = s.panels ∧
      (s.takeRetarget o n).link = s.link ∧ (s.takeRetarget o n).pending = s.pending := by
  simp [State.takeRetarget]

@[simp] theorem State.retargetAnswered_frame (s : State) (i : Nat) (e : ActionEntry) :
    (s.retargetAnswered i e).store = s.store ∧ (s.retargetAnswered i e).ingest = s.ingest ∧ (s.retargetAnswered i e).outlets = s.outlets ∧
      (s.retargetAnswered i e).cuts = s.cuts ∧ (s.retargetAnswered i e).bank = s.bank ∧ (s.retargetAnswered i e).panels = s.panels ∧
      (s.retargetAnswered i e).settings = s.settings ∧ (s.retargetAnswered i e).pending = s.pending := by
  simp only [State.retargetAnswered]
  split <;> simp

@[simp] theorem State.retarget_frame (s : State) (o : OutletId) :
    (s.retarget o).store = s.store ∧ (s.retarget o).ingest = s.ingest ∧ (s.retarget o).cuts = s.cuts ∧
      (s.retarget o).bank = s.bank ∧ (s.retarget o).panels = s.panels ∧ (s.retarget o).pending = s.pending := by
  simp only [State.retarget]
  (repeat' split) <;> simp

@[simp] theorem State.uncurrent_frame (s : State) (k : SlotId) :
    (s.uncurrent k).store = s.store ∧ (s.uncurrent k).ingest = s.ingest ∧ (s.uncurrent k).outlets = s.outlets ∧
      (s.uncurrent k).cuts = s.cuts ∧ (s.uncurrent k).bank = s.bank ∧ (s.uncurrent k).panels = s.panels ∧
      (s.uncurrent k).link = s.link ∧ (s.uncurrent k).settings = s.settings ∧ (s.uncurrent k).pending = s.pending := by
  simp [State.uncurrent]

@[simp] theorem State.changeIngest_frame (s : State) (x : IngestState) (c : IngestCause) :
    (s.changeIngest x c).store = s.store ∧ (s.changeIngest x c).outlets = s.outlets ∧ (s.changeIngest x c).cuts = s.cuts ∧
      (s.changeIngest x c).watch = s.watch ∧ (s.changeIngest x c).bank = s.bank ∧ (s.changeIngest x c).panels = s.panels ∧
      (s.changeIngest x c).settings = s.settings ∧ (s.changeIngest x c).pending = s.pending := by
  simp [State.changeIngest]

@[simp] theorem State.countMissed_frame (s : State) :
    s.countMissed.store = s.store ∧ s.countMissed.ingest = s.ingest ∧ s.countMissed.cuts = s.cuts ∧
      s.countMissed.watch = s.watch ∧ s.countMissed.bank = s.bank ∧ s.countMissed.panels = s.panels ∧
      s.countMissed.link = s.link ∧ s.countMissed.settings = s.settings ∧ s.countMissed.pending = s.pending := by
  simp [State.countMissed]

@[simp] theorem State.completeHeld_frame (s : State) (f : Frame) :
    (s.completeHeld f).watch = s.watch ∧ (s.completeHeld f).bank = s.bank ∧ (s.completeHeld f).panels = s.panels ∧
      (s.completeHeld f).settings = s.settings ∧ (s.completeHeld f).pending = s.pending := by
  simp only [State.completeHeld]
  split <;> simp

@[simp] theorem State.sequenceEnd_frame (s : State) :
    s.sequenceEnd.store = s.store ∧ s.sequenceEnd.outlets = s.outlets ∧ s.sequenceEnd.cuts = s.cuts ∧
      s.sequenceEnd.watch = s.watch ∧ s.sequenceEnd.bank = s.bank ∧ s.sequenceEnd.panels = s.panels ∧
      s.sequenceEnd.settings = s.settings ∧ s.sequenceEnd.pending = s.pending := by
  simp only [State.sequenceEnd]
  split <;> simp

@[simp] theorem State.completeRest_frame (s : State) (x : Frame) :
    (s.completeRest x).outlets = s.outlets ∧ (s.completeRest x).bank = s.bank ∧ (s.completeRest x).panels = s.panels ∧
      (s.completeRest x).settings = s.settings ∧ (s.completeRest x).pending = s.pending ∧ (s.completeRest x).store.filling = s.store.filling := by
  simp [State.completeRest]

@[simp] theorem State.complete_frame (s : State) :
    s.complete.bank = s.bank ∧ s.complete.panels = s.panels ∧ s.complete.settings = s.settings ∧
      s.complete.pending = s.pending := by
  simp only [State.complete]
  split <;> simp

@[simp] theorem State.endEarly_frame (s : State) :
    s.endEarly.bank = s.bank ∧ s.endEarly.panels = s.panels ∧ s.endEarly.settings = s.settings ∧
      s.endEarly.pending = s.pending := by
  simp only [State.endEarly]
  split <;> simp

@[simp] theorem State.recordRefused_frame (s : State) (p : PortFrame) :
    (s.recordRefused p).store = s.store ∧ (s.recordRefused p).outlets = s.outlets ∧ (s.recordRefused p).cuts = s.cuts ∧
      (s.recordRefused p).watch = s.watch ∧ (s.recordRefused p).bank = s.bank ∧ (s.recordRefused p).panels = s.panels ∧
      (s.recordRefused p).settings = s.settings ∧ (s.recordRefused p).pending = s.pending := by
  simp [State.recordRefused]

@[simp] theorem State.beginFrame_frame (s : State) (t : Option RawTimecode) (b : Option Nat) :
    (s.beginFrame t b).outlets = s.outlets ∧ (s.beginFrame t b).watch = s.watch ∧ (s.beginFrame t b).bank = s.bank ∧
      (s.beginFrame t b).settings = s.settings ∧ (s.beginFrame t b).pending = s.pending := by
  simp [State.beginFrame]

@[simp] theorem State.modFill_frame (s : State) (f : FillState → FillState) :
    (s.modFill f).store = s.store ∧ (s.modFill f).outlets = s.outlets ∧ (s.modFill f).cuts = s.cuts ∧
      (s.modFill f).watch = s.watch ∧ (s.modFill f).bank = s.bank ∧ (s.modFill f).panels = s.panels ∧
      (s.modFill f).link = s.link ∧ (s.modFill f).settings = s.settings ∧ (s.modFill f).pending = s.pending := by
  simp [State.modFill]

@[simp] theorem State.truncate_frame (s : State) :
    s.truncate.outlets = s.outlets ∧ s.truncate.cuts = s.cuts ∧ s.truncate.watch = s.watch ∧
      s.truncate.bank = s.bank ∧ s.truncate.panels = s.panels ∧ s.truncate.link = s.link ∧
      s.truncate.settings = s.settings ∧ s.truncate.pending = s.pending := by
  simp [State.truncate]

@[simp] theorem State.recordSource_frame (s : State) (x : Presence) :
    (s.recordSource x).store = s.store ∧ (s.recordSource x).outlets = s.outlets ∧ (s.recordSource x).cuts = s.cuts ∧
      (s.recordSource x).watch = s.watch ∧ (s.recordSource x).bank = s.bank ∧ (s.recordSource x).panels = s.panels ∧
      (s.recordSource x).link = s.link ∧ (s.recordSource x).settings = s.settings ∧ (s.recordSource x).pending = s.pending := by
  simp [State.recordSource]

@[simp] theorem State.recordReference_frame (s : State) (x : Presence) :
    (s.recordReference x).store = s.store ∧ (s.recordReference x).outlets = s.outlets ∧ (s.recordReference x).cuts = s.cuts ∧
      (s.recordReference x).watch = s.watch ∧ (s.recordReference x).bank = s.bank ∧ (s.recordReference x).panels = s.panels ∧
      (s.recordReference x).link = s.link ∧ (s.recordReference x).settings = s.settings ∧ (s.recordReference x).pending = s.pending := by
  simp [State.recordReference]

@[simp] theorem State.leaveRunning_frame (s : State) (x : IngestState) (c : IngestCause) :
    (s.leaveRunning x c).bank = s.bank ∧ (s.leaveRunning x c).panels = s.panels ∧ (s.leaveRunning x c).settings = s.settings ∧
      (s.leaveRunning x c).pending = s.pending := by
  simp only [State.leaveRunning]
  split <;> simp

@[simp] theorem State.sourceLost_frame (s : State) :
    s.sourceLost.bank = s.bank ∧ s.sourceLost.panels = s.panels ∧ s.sourceLost.settings = s.settings ∧
      s.sourceLost.pending = s.pending := by
  simp only [State.sourceLost]
  split <;> simp

@[simp] theorem State.sourceReturned_frame (s : State) :
    s.sourceReturned.store = s.store ∧ s.sourceReturned.outlets = s.outlets ∧ s.sourceReturned.cuts = s.cuts ∧
      s.sourceReturned.watch = s.watch ∧ s.sourceReturned.bank = s.bank ∧ s.sourceReturned.panels = s.panels ∧
      s.sourceReturned.settings = s.settings ∧ s.sourceReturned.pending = s.pending := by
  simp only [State.sourceReturned]
  split <;> simp

@[simp] theorem State.referenceLost_frame (s : State) :
    s.referenceLost.bank = s.bank ∧ s.referenceLost.panels = s.panels ∧ s.referenceLost.settings = s.settings ∧
      s.referenceLost.pending = s.pending := by
  simp only [State.referenceLost]
  split <;> simp

@[simp] theorem State.referenceReturned_frame (s : State) :
    s.referenceReturned.store = s.store ∧ s.referenceReturned.outlets = s.outlets ∧ s.referenceReturned.cuts = s.cuts ∧
      s.referenceReturned.watch = s.watch ∧ s.referenceReturned.bank = s.bank ∧ s.referenceReturned.panels = s.panels ∧
      s.referenceReturned.settings = s.settings ∧ s.referenceReturned.pending = s.pending := by
  simp only [State.referenceReturned]
  split <;> simp

@[simp] theorem State.bridgeFrame_frame (s : State) (b : Option Nat) :
    (s.bridgeFrame b).bank = s.bank ∧ (s.bridgeFrame b).settings = s.settings ∧ (s.bridgeFrame b).pending = s.pending := by
  simp [State.bridgeFrame]

@[simp] theorem State.frameEnd_frame (s : State) :
    s.frameEnd.bank = s.bank ∧ s.frameEnd.panels = s.panels ∧ s.frameEnd.settings = s.settings ∧
      s.frameEnd.pending = s.pending := by
  simp only [State.frameEnd]
  (repeat' split) <;> simp

@[simp] theorem State.startIngest_frame (s : State) :
    s.startIngest.store = s.store ∧ s.startIngest.outlets = s.outlets ∧ s.startIngest.cuts = s.cuts ∧
      s.startIngest.watch = s.watch ∧ s.startIngest.bank = s.bank ∧ s.startIngest.panels = s.panels ∧
      s.startIngest.settings = s.settings ∧ s.startIngest.pending = s.pending := by
  simp [State.startIngest]

@[simp] theorem State.discardFilling_frame (s : State) :
    s.discardFilling.ingest = s.ingest ∧ s.discardFilling.outlets = s.outlets ∧ s.discardFilling.watch = s.watch ∧
      s.discardFilling.bank = s.bank ∧ s.discardFilling.settings = s.settings ∧ s.discardFilling.pending = s.pending := by
  simp only [State.discardFilling]
  split <;> simp

@[simp] theorem State.stopIngest_frame (s : State) :
    s.stopIngest.outlets = s.outlets ∧ s.stopIngest.watch = s.watch ∧ s.stopIngest.bank = s.bank ∧
      s.stopIngest.settings = s.settings ∧ s.stopIngest.pending = s.pending := by
  simp [State.stopIngest]

@[simp] theorem State.setRate_frame (s : State) (r : Nat) :
    (s.setRate r).store = s.store ∧ (s.setRate r).outlets = s.outlets ∧ (s.setRate r).cuts = s.cuts ∧
      (s.setRate r).watch = s.watch ∧ (s.setRate r).bank = s.bank ∧ (s.setRate r).panels = s.panels ∧
      (s.setRate r).link = s.link ∧ (s.setRate r).pending = s.pending := by
  simp [State.setRate]

@[simp] theorem State.setPause_frame (s : State) (x : Int) (c : Half) (e : Bool) :
    (s.setPause x c e).store = s.store ∧ (s.setPause x c e).ingest = s.ingest ∧ (s.setPause x c e).outlets = s.outlets ∧
      (s.setPause x c e).cuts = s.cuts ∧ (s.setPause x c e).watch = s.watch ∧ (s.setPause x c e).bank = s.bank ∧
      (s.setPause x c e).panels = s.panels ∧ (s.setPause x c e).link = s.link ∧ (s.setPause x c e).pending = s.pending := by
  simp [State.setPause]

end Sys2Proof.Machine
end

