-- ==== Sys2Proof/Laws/PanelFrames.lean ====
section
/-! SUPPORT. Which fields of the state each operation of the panel lines leaves as they are. -/

namespace Sys2Proof.Machine

@[simp] theorem State.isolate_frame (s : State) (p : PanelId) :
    (s.isolate p).store = s.store ∧ (s.isolate p).ingest = s.ingest ∧ (s.isolate p).outlets = s.outlets ∧
      (s.isolate p).watch = s.watch ∧ (s.isolate p).bank = s.bank ∧ (s.isolate p).settings = s.settings ∧
      (s.isolate p).pending = s.pending := by
  simp [State.isolate]

@[simp] theorem State.decideStanding_frame (s : State) (p : PanelId) :
    (s.decideStanding p).store = s.store ∧ (s.decideStanding p).ingest = s.ingest ∧ (s.decideStanding p).outlets = s.outlets ∧
      (s.decideStanding p).watch = s.watch ∧ (s.decideStanding p).bank = s.bank ∧ (s.decideStanding p).settings = s.settings ∧
      (s.decideStanding p).pending = s.pending := by
  simp only [State.decideStanding]
  (repeat' split) <;> simp

@[simp] theorem State.discardPacket_frame (s : State) (p : PanelId) :
    (s.discardPacket p).store = s.store ∧ (s.discardPacket p).ingest = s.ingest ∧ (s.discardPacket p).outlets = s.outlets ∧
      (s.discardPacket p).cuts = s.cuts ∧ (s.discardPacket p).watch = s.watch ∧ (s.discardPacket p).bank = s.bank ∧
      (s.discardPacket p).link = s.link ∧ (s.discardPacket p).settings = s.settings ∧ (s.discardPacket p).pending = s.pending := by
  simp [State.discardPacket]

@[simp] theorem State.badPacket_frame (s : State) (p : PanelId) (c : BadCause) :
    (s.badPacket p c).store = s.store ∧ (s.badPacket p c).ingest = s.ingest ∧ (s.badPacket p c).outlets = s.outlets ∧
      (s.badPacket p c).watch = s.watch ∧ (s.badPacket p c).bank = s.bank ∧ (s.badPacket p c).settings = s.settings ∧
      (s.badPacket p c).pending = s.pending := by
  simp only [State.badPacket]
  split <;> simp

@[simp] theorem State.setLast_frame (s : State) (p : PanelId) (b : Button) (m : PanelMessage) (r : PressResult) :
    (s.setLast p b m r).store = s.store ∧ (s.setLast p b m r).ingest = s.ingest ∧ (s.setLast p b m r).outlets = s.outlets ∧
      (s.setLast p b m r).cuts = s.cuts ∧ (s.setLast p b m r).watch = s.watch ∧ (s.setLast p b m r).bank = s.bank ∧
      (s.setLast p b m r).link = s.link ∧ (s.setLast p b m r).settings = s.settings ∧ (s.setLast p b m r).pending = s.pending := by
  simp [State.setLast]

@[simp] theorem State.pressRequest_frame (s : State) (p : PanelId) (b : Button) :
    (s.pressRequest p b).1.store = s.store ∧ (s.pressRequest p b).1.ingest = s.ingest ∧ (s.pressRequest p b).1.outlets = s.outlets ∧
      (s.pressRequest p b).1.watch = s.watch ∧ (s.pressRequest p b).1.bank = s.bank ∧ (s.pressRequest p b).1.settings = s.settings ∧
      (s.pressRequest p b).1.pending = s.pending := by
  cases b <;> simp [State.pressRequest]

@[simp] theorem State.lightLamp_frame (s : State) (p : PanelId) (b : Button) (a : CutAnswer) :
    (s.lightLamp p b a).store = s.store ∧ (s.lightLamp p b a).ingest = s.ingest ∧ (s.lightLamp p b a).outlets = s.outlets ∧
      (s.lightLamp p b a).cuts = s.cuts ∧ (s.lightLamp p b a).watch = s.watch ∧ (s.lightLamp p b a).bank = s.bank ∧
      (s.lightLamp p b a).link = s.link ∧ (s.lightLamp p b a).settings = s.settings ∧ (s.lightLamp p b a).pending = s.pending := by
  simp only [State.lightLamp]
  split <;> simp

@[simp] theorem State.panelPress_frame (s : State) (p : PanelId) (b : Button) :
    (s.panelPress p b).store = s.store ∧ (s.panelPress p b).ingest = s.ingest ∧ (s.panelPress p b).outlets = s.outlets ∧
      (s.panelPress p b).watch = s.watch ∧ (s.panelPress p b).bank = s.bank ∧ (s.panelPress p b).settings = s.settings ∧
      (s.panelPress p b).pending = s.pending := by
  simp only [State.panelPress]
  split <;> simp

@[simp] theorem State.releaseButton_frame (s : State) (p : PanelId) (b : Button) :
    (s.releaseButton p b).store = s.store ∧ (s.releaseButton p b).ingest = s.ingest ∧ (s.releaseButton p b).outlets = s.outlets ∧
      (s.releaseButton p b).watch = s.watch ∧ (s.releaseButton p b).bank = s.bank ∧ (s.releaseButton p b).settings = s.settings ∧
      (s.releaseButton p b).pending = s.pending := by
  simp only [State.releaseButton]
  (repeat' split) <;> simp

@[simp] theorem State.panelMessage_frame (s : State) (p : PanelId) (b : List Byte) :
    (s.panelMessage p b).store = s.store ∧ (s.panelMessage p b).ingest = s.ingest ∧ (s.panelMessage p b).outlets = s.outlets ∧
      (s.panelMessage p b).watch = s.watch ∧ (s.panelMessage p b).bank = s.bank ∧ (s.panelMessage p b).settings = s.settings ∧
      (s.panelMessage p b).pending = s.pending := by
  simp only [State.panelMessage]
  (repeat' split) <;> simp

@[simp] theorem State.oweTally_frame (s : State) (p : PanelId) :
    (s.oweTally p).store = s.store ∧ (s.oweTally p).ingest = s.ingest ∧ (s.oweTally p).outlets = s.outlets ∧
      (s.oweTally p).cuts = s.cuts ∧ (s.oweTally p).watch = s.watch ∧ (s.oweTally p).bank = s.bank ∧
      (s.oweTally p).link = s.link ∧ (s.oweTally p).settings = s.settings ∧ (s.oweTally p).pending = s.pending := by
  simp only [State.oweTally]
  split <;> simp

@[simp] theorem State.tallySent_frame (s : State) (p : PanelId) :
    (s.tallySent p).store = s.store ∧ (s.tallySent p).ingest = s.ingest ∧ (s.tallySent p).outlets = s.outlets ∧
      (s.tallySent p).cuts = s.cuts ∧ (s.tallySent p).watch = s.watch ∧ (s.tallySent p).bank = s.bank ∧
      (s.tallySent p).link = s.link ∧ (s.tallySent p).settings = s.settings ∧ (s.tallySent p).pending = s.pending := by
  simp only [State.tallySent]
  (repeat' split) <;> simp

@[simp] theorem State.creditPacket_frame (s : State) (p : PanelId) :
    (s.creditPacket p).store = s.store ∧ (s.creditPacket p).ingest = s.ingest ∧ (s.creditPacket p).outlets = s.outlets ∧
      (s.creditPacket p).watch = s.watch ∧ (s.creditPacket p).bank = s.bank ∧ (s.creditPacket p).settings = s.settings ∧
      (s.creditPacket p).pending = s.pending := by
  simp [State.creditPacket]

@[simp] theorem State.goodPacket_frame (s : State) (p : PanelId) (b : List Byte) :
    (s.goodPacket p b).store = s.store ∧ (s.goodPacket p b).ingest = s.ingest ∧ (s.goodPacket p b).outlets = s.outlets ∧
      (s.goodPacket p b).watch = s.watch ∧ (s.goodPacket p b).bank = s.bank ∧ (s.goodPacket p b).settings = s.settings ∧
      (s.goodPacket p b).pending = s.pending := by
  simp only [State.goodPacket]
  split <;> simp

@[simp] theorem State.panelEnd_frame (s : State) (p : PanelId) (e : Option PacketEnd) :
    (s.panelEnd p e).store = s.store ∧ (s.panelEnd p e).ingest = s.ingest ∧ (s.panelEnd p e).outlets = s.outlets ∧
      (s.panelEnd p e).watch = s.watch ∧ (s.panelEnd p e).bank = s.bank ∧ (s.panelEnd p e).settings = s.settings ∧
      (s.panelEnd p e).pending = s.pending := by
  simp only [State.panelEnd]
  split <;> simp

@[simp] theorem State.setPanelReceiver_frame (s : State) (p : PanelId) (r : Receiver) :
    (s.setPanelReceiver p r).store = s.store ∧ (s.setPanelReceiver p r).ingest = s.ingest ∧ (s.setPanelReceiver p r).outlets = s.outlets ∧
      (s.setPanelReceiver p r).cuts = s.cuts ∧ (s.setPanelReceiver p r).watch = s.watch ∧ (s.setPanelReceiver p r).bank = s.bank ∧
      (s.setPanelReceiver p r).link = s.link ∧ (s.setPanelReceiver p r).settings = s.settings ∧ (s.setPanelReceiver p r).pending = s.pending := by
  simp [State.setPanelReceiver]

@[simp] theorem State.panelByte_frame (s : State) (p : PanelId) (b : Byte) :
    (s.panelByte p b).store = s.store ∧ (s.panelByte p b).ingest = s.ingest ∧ (s.panelByte p b).outlets = s.outlets ∧
      (s.panelByte p b).watch = s.watch ∧ (s.panelByte p b).bank = s.bank ∧ (s.panelByte p b).settings = s.settings ∧
      (s.panelByte p b).pending = s.pending := by
  simp [State.panelByte]

@[simp] theorem State.panelGap_frame (s : State) (p : PanelId) :
    (s.panelGap p).store = s.store ∧ (s.panelGap p).ingest = s.ingest ∧ (s.panelGap p).outlets = s.outlets ∧
      (s.panelGap p).watch = s.watch ∧ (s.panelGap p).bank = s.bank ∧ (s.panelGap p).settings = s.settings ∧
      (s.panelGap p).pending = s.pending := by
  simp only [State.panelGap]
  split <;> simp

@[simp] theorem State.restorePanel_frame (s : State) (p : PanelId) :
    (s.restorePanel p).store = s.store ∧ (s.restorePanel p).ingest = s.ingest ∧ (s.restorePanel p).outlets = s.outlets ∧
      (s.restorePanel p).cuts = s.cuts ∧ (s.restorePanel p).watch = s.watch ∧ (s.restorePanel p).bank = s.bank ∧
      (s.restorePanel p).settings = s.settings ∧ (s.restorePanel p).pending = s.pending := by
  simp only [State.restorePanel]
  split <;> simp

end Sys2Proof.Machine
end

