-- ==== Sys2Proof/Laws/EventFrames.lean ====
section
/-! SUPPORT. Which fields of the state the larger events leave as they are, and what no command changes: the queue. -/

namespace Sys2Proof.Machine

/-! ## Eviction and section data -/

theorem State.tryEvict_frame {s t : State} (h : s.tryEvict = some t) :
    t.ingest = s.ingest ∧ t.watch = s.watch ∧ t.panels = s.panels ∧ t.settings = s.settings ∧
      t.pending = s.pending ∧ t.store.filling = s.store.filling := by
  unfold State.tryEvict at h
  split at h
  · simp at h
  · split at h
    · simp at h
    · obtain rfl := Option.some.inj h
      simp

theorem State.recordRoom_frame {s t : State} (h : s.recordRoom = some t) :
    t.ingest = s.ingest ∧ t.watch = s.watch ∧ t.panels = s.panels ∧ t.settings = s.settings ∧
      t.pending = s.pending ∧ t.store.filling = s.store.filling := by
  unfold State.recordRoom at h
  split at h
  · obtain rfl := Option.some.inj h
    simp
  · exact State.tryEvict_frame h

@[simp] theorem State.pageRoom_frame (s : State) (k : Nat) :
    (State.pageRoom k s).1.ingest = s.ingest ∧ (State.pageRoom k s).1.watch = s.watch ∧
      (State.pageRoom k s).1.panels = s.panels ∧ (State.pageRoom k s).1.settings = s.settings ∧
      (State.pageRoom k s).1.pending = s.pending ∧ (State.pageRoom k s).1.store.filling = s.store.filling := by
  induction k generalizing s with
  | zero => simp [State.pageRoom]
  | succ k ih =>
    simp only [State.pageRoom]
    split
    · simp
    · split
      · rename_i t ht
        have h := State.tryEvict_frame ht
        simp [ih, h]
      · simp

@[simp] theorem State.addPages_frame (s : State) (l : Lane) (k : Nat) (data : List Byte) :
    (State.addPages l k data s).watch = s.watch ∧ (State.addPages l k data s).panels = s.panels ∧
      (State.addPages l k data s).settings = s.settings ∧ (State.addPages l k data s).pending = s.pending := by
  induction k generalizing s data with
  | zero => simp [State.addPages]
  | succ k ih =>
    simp only [State.addPages]
    (repeat' split) <;> simp [ih]

@[simp] theorem State.fillLane_frame (s : State) (l : Lane) (data : List Byte) :
    (s.fillLane l data).watch = s.watch ∧ (s.fillLane l data).panels = s.panels ∧
      (s.fillLane l data).settings = s.settings ∧ (s.fillLane l data).pending = s.pending := by
  simp only [State.fillLane]
  (repeat' split) <;> simp

@[simp] theorem State.takeLane_frame (s : State) (x : FillState) (l : Lane) (data : List Byte) :
    (s.takeLane x l data).watch = s.watch ∧ (s.takeLane x l data).panels = s.panels ∧
      (s.takeLane x l data).settings = s.settings ∧ (s.takeLane x l data).pending = s.pending := by
  simp only [State.takeLane]
  (repeat' split) <;> simp

@[simp] theorem State.takePiece_frame (s : State) (x : FillState) (p : Piece) :
    (s.takePiece x p).watch = s.watch ∧ (s.takePiece x p).panels = s.panels ∧
      (s.takePiece x p).settings = s.settings ∧ (s.takePiece x p).pending = s.pending := by
  cases p <;> simp [State.takePiece]

@[simp] theorem State.sectionData_frame (s : State) (p : Piece) :
    (s.sectionData p).watch = s.watch ∧ (s.sectionData p).panels = s.panels ∧
      (s.sectionData p).settings = s.settings ∧ (s.sectionData p).pending = s.pending := by
  simp only [State.sectionData]
  (repeat' split) <;> simp

@[simp] theorem State.openFrame_frame (s : State) (t : Option RawTimecode) :
    (s.openFrame t).watch = s.watch ∧ (s.openFrame t).settings = s.settings ∧ (s.openFrame t).pending = s.pending := by
  simp only [State.openFrame]
  split
  · rename_i u hu
    have h := State.recordRoom_frame hu
    simp [h]
  · simp

@[simp] theorem State.frameStart_frame (s : State) (t : Option RawTimecode) :
    (s.frameStart t).settings = s.settings ∧ (s.frameStart t).pending = s.pending := by
  simp only [State.frameStart]
  (repeat' split) <;> simp

@[simp] theorem State.referenceFrameTime_frame (s : State) :
    s.referenceFrameTime.settings = s.settings ∧ s.referenceFrameTime.pending = s.pending := by
  simp only [State.referenceFrameTime]
  split
  · simp
  · simp
  · split
    · rename_i u hu
      have h := State.recordRoom_frame hu
      simp [h]
    · simp
  · simp

/-! ## Settings -/

@[simp] theorem State.autoIngest_frame (s : State) :
    s.autoIngest.settings = s.settings ∧ s.autoIngest.pending = s.pending := by
  simp only [State.autoIngest]
  split <;> simp

@[simp] theorem State.autoOutlet_frame (s : State) (o : OutletId) :
    (s.autoOutlet o).settings = s.settings ∧ (s.autoOutlet o).pending = s.pending := by
  simp only [State.autoOutlet]
  split <;> simp

@[simp] theorem State.autostart_frame (s : State) :
    s.autostart.settings = s.settings ∧ s.autostart.pending = s.pending := by
  simp [State.autostart, four]

@[simp] theorem State.takeLoad_frame (s : State) (r : LoadResult) (c : Option Settings) :
    (s.takeLoad r c).store = s.store ∧ (s.takeLoad r c).ingest = s.ingest ∧ (s.takeLoad r c).outlets = s.outlets ∧
      (s.takeLoad r c).cuts = s.cuts ∧ (s.takeLoad r c).watch = s.watch ∧ (s.takeLoad r c).bank = s.bank ∧
      (s.takeLoad r c).panels = s.panels ∧ (s.takeLoad r c).link = s.link ∧
      (s.takeLoad r c).pending = s.pending := by
  simp [State.takeLoad]

@[simp] theorem State.reportLoad_frame (s : State) (r : LoadResult) :
    (s.reportLoad r).store = s.store ∧ (s.reportLoad r).ingest = s.ingest ∧ (s.reportLoad r).outlets = s.outlets ∧
      (s.reportLoad r).cuts = s.cuts ∧ (s.reportLoad r).watch = s.watch ∧ (s.reportLoad r).bank = s.bank ∧
      (s.reportLoad r).panels = s.panels ∧ (s.reportLoad r).settings = s.settings ∧
      (s.reportLoad r).pending = s.pending := by
  simp only [State.reportLoad]
  split <;> simp

@[simp] theorem State.loadEnd_pending (s : State) (b : Bool) : (s.loadEnd b).pending = s.pending := by
  simp only [State.loadEnd]
  split <;> simp

@[simp] theorem State.saveEnd_frame (s : State) (b : Bool) :
    (s.saveEnd b).store = s.store ∧ (s.saveEnd b).ingest = s.ingest ∧ (s.saveEnd b).outlets = s.outlets ∧
      (s.saveEnd b).cuts = s.cuts ∧ (s.saveEnd b).watch = s.watch ∧ (s.saveEnd b).bank = s.bank ∧
      (s.saveEnd b).panels = s.panels ∧ (s.saveEnd b).settings.current = s.settings.current ∧
      (s.saveEnd b).pending = s.pending := by
  simp only [State.saveEnd]
  (repeat' split) <;> simp

@[simp] theorem State.takeSaveFields_pending (s : State) (l : Nat) (k : Half) (a : Bool) (m : OutletSet) :
    (s.takeSaveFields l k a m).pending = s.pending := by
  simp [State.takeSaveFields]

@[simp] theorem State.beginSave_pending (s : State) : s.beginSave.1.pending = s.pending := by
  simp [State.beginSave, Sys2Proof.Machine.done]

@[simp] theorem State.defaultSettings_pending (s : State) : s.defaultSettings.pending = s.pending := by
  simp [State.defaultSettings]

/-! ## The owners -/

/-- No owner touches the queue. -/
@[simp] theorem State.owner_pending (s : State) (r : Request) : (s.owner r).1.pending = s.pending := by
  cases r <;>
    simp only [State.owner, State.onStatus, State.onReset, State.onOutletStart, State.onOutletStop,
      State.onOutletTarget, State.onOutletFloor, State.onFloorUnlock, State.onOutletShape, State.onOutletClip,
      State.onOutletRead, State.onIngestStart, State.onIngestStop, State.onIngestRate, State.onIngestPause,
      State.onRetainSet, State.onFrameRead, State.onCut, State.onCutClose, State.onCutRead, State.onCutList,
      State.onWatchSet, State.onWatchArm, State.onWatchDisarm, State.onWatchRead, State.onClipGrab, State.onClipClear,
      State.onClipRead, State.onPanelSet, State.onPanelRestore, State.onPanelRead, State.onSettingsSave,
      State.onSettingsDefault, Sys2Proof.Machine.done, refuse, refuseSlot, refuseIngest, doneIngest, answerCut] <;>
    (repeat' split) <;> simp

/-! ## The link -/

@[simp] theorem State.fillSlot_frame (s : State) (b : List Byte) :
    (s.fillSlot b).store = s.store ∧ (s.fillSlot b).ingest = s.ingest ∧ (s.fillSlot b).outlets = s.outlets ∧
      (s.fillSlot b).cuts = s.cuts ∧ (s.fillSlot b).watch = s.watch ∧ (s.fillSlot b).bank = s.bank ∧
      (s.fillSlot b).panels = s.panels ∧ (s.fillSlot b).settings = s.settings ∧
      (s.fillSlot b).pending = s.pending := by
  simp [State.fillSlot]

@[simp] theorem State.refuseAtLink_frame (s : State) (a b : Byte) (c : ResultCode) :
    (s.refuseAtLink a b c).store = s.store ∧ (s.refuseAtLink a b c).ingest = s.ingest ∧
      (s.refuseAtLink a b c).outlets = s.outlets ∧ (s.refuseAtLink a b c).cuts = s.cuts ∧
      (s.refuseAtLink a b c).watch = s.watch ∧ (s.refuseAtLink a b c).bank = s.bank ∧
      (s.refuseAtLink a b c).panels = s.panels ∧ (s.refuseAtLink a b c).settings = s.settings ∧
      (s.refuseAtLink a b c).pending = s.pending := by
  simp [State.refuseAtLink]

@[simp] theorem State.takeRequest_pending (s : State) (b : List Byte) : (s.takeRequest b).pending = s.pending := by
  simp only [State.takeRequest, State.takeTagged, State.handToOwner]
  (repeat' split) <;> simp

@[simp] theorem State.serve_pending (s : State) : s.serve.pending = s.pending := by
  simp only [State.serve]
  split <;> simp

@[simp] theorem State.acceptPacket_pending (s : State) (b : List Byte) : (s.acceptPacket b).pending = s.pending := by
  simp only [State.acceptPacket]
  split <;> simp

@[simp] theorem State.request_pending (s : State) (t : Byte) (r : Request) :
    (s.request t r).pending = s.pending := by
  simp [State.request]

@[simp] theorem State.discardFromHost_frame (s : State) :
    s.discardFromHost.store = s.store ∧ s.discardFromHost.ingest = s.ingest ∧ s.discardFromHost.outlets = s.outlets ∧
      s.discardFromHost.cuts = s.cuts ∧ s.discardFromHost.watch = s.watch ∧ s.discardFromHost.bank = s.bank ∧
      s.discardFromHost.panels = s.panels ∧ s.discardFromHost.settings = s.settings ∧
      s.discardFromHost.pending = s.pending := by
  simp [State.discardFromHost]

@[simp] theorem State.hostByte_pending (s : State) (b : Byte) : (s.hostByte b).pending = s.pending := by
  simp only [State.hostByte, State.hostEnd, State.setHostReceiver]
  (repeat' split) <;> simp

@[simp] theorem State.hostGap_frame (s : State) :
    s.hostGap.store = s.store ∧ s.hostGap.ingest = s.ingest ∧ s.hostGap.outlets = s.outlets ∧
      s.hostGap.cuts = s.cuts ∧ s.hostGap.watch = s.watch ∧ s.hostGap.bank = s.bank ∧
      s.hostGap.panels = s.panels ∧ s.hostGap.settings = s.settings ∧ s.hostGap.pending = s.pending := by
  simp only [State.hostGap, State.setHostReceiver]
  split <;> simp

@[simp] theorem State.resetTo_pending (s : State) (c : ResetCause) (p : PortReport) :
    (s.resetTo c p).pending = s.pending := rfl

@[simp] theorem State.transmitEnd_pending (s : State) (b : Baud) : (s.transmitEnd b).pending = s.pending := by
  simp only [State.transmitEnd, State.replySent, State.noticeSent]
  (repeat' split) <;> simp

end Sys2Proof.Machine
end

