-- ==== Sys2Proof/Laws/Requests.lean ====
section
/-! SUPPORT. What every request has in common: numbers read back from their bytes, numbers of blocks from a byte, what
the transmitter's choice leaves, and the way of a request from its arrival to its owner's answer. -/

namespace Sys2Proof.Machine

/-! ## Numbers and their bytes -/

theorem fromLe_le (k n : Nat) : fromLe (le k n) = n % 256 ^ k := by
  induction k generalizing n with
  | zero => simp [le, fromLe, Nat.mod_one]
  | succ k ih =>
    simp only [le, fromLe, ih, BitVec.toNat_ofNat]
    rw [show 256 ^ (k + 1) = 256 * 256 ^ k from Nat.pow_succ', @Nat.mod_mul 256 (256 ^ k) n]

/-- Yes or no is one byte, the number of the Boolean. -/
theorem flag_eq (b : Bool) : flag b = [BitVec.ofNat 8 b.toNat] := by cases b <;> rfl

/-- Leading bytes of a body are skipped by a field that begins after them. -/
theorem field_append_right {a b : List Byte} {i w : Nat} (h : a.length ≤ i) :
    field (a ++ b) i w = field b (i - a.length) w := by
  simp [field, List.drop_append, List.drop_eq_nil_of_le h]

/-- A field that fills the first bytes of a body is the number they spell. -/
theorem field_append_left {a b : List Byte} {w : Nat} (h : a.length = w) : field (a ++ b) 0 w = fromLe a := by
  simp [field, ← h]

/-- A 16-bit field is read back from its two bytes. -/
theorem half_bytes (h : Half) : half (BitVec.ofNat 8 h.toNat) (BitVec.ofNat 8 (h.toNat / 256)) = h := by
  have e := fromLe_le 2 h.toNat
  have hlt := h.isLt
  simp only [le] at e
  unfold half
  rw [e]
  apply BitVec.eq_of_toNat_eq
  simp only [BitVec.toNat_ofNat]
  norm_num at *
  omega

/-- A 32-bit field is read back from its four bytes. -/
theorem word32_bytes (h : BitVec 32) :
    word32 (BitVec.ofNat 8 h.toNat) (BitVec.ofNat 8 (h.toNat / 256)) (BitVec.ofNat 8 (h.toNat / 256 / 256))
      (BitVec.ofNat 8 (h.toNat / 256 / 256 / 256)) = h := by
  have e := fromLe_le 4 h.toNat
  have hlt := h.isLt
  simp only [le] at e
  unfold word32
  rw [e]
  apply BitVec.eq_of_toNat_eq
  simp only [BitVec.toNat_ofNat]
  norm_num at *
  omega

theorem index_of_toNat {n : Nat} {b : Byte} {k : Fin n} (h : b.toNat = k.val) : index n b = some k := by
  unfold index
  rw [dif_pos (by omega)]
  simp [h]

theorem index_outside {n : Nat} {b : Byte} (h : n ≤ b.toNat) : index n b = none := by
  unfold index
  rw [dif_neg (by omega)]

theorem yesNo_outside {b : Byte} (h : 1 < b.toNat) : yesNo b = none := by
  have h0 : b ≠ 0 := by rintro rfl; simp at h
  have h1 : b ≠ 1 := by rintro rfl; simp at h
  unfold yesNo
  rw [if_neg h0, if_neg h1]

/-! ## The transmitter's choice -/

/-- The choice of the next packet changes the transmitter, last sent and the Notice Queue, and nothing else. -/
theorem Link.choose_kept (l : Link) :
    l.choose.reply = l.reply ∧ l.choose.buffer = l.buffer ∧ l.choose.pendingReset = l.pendingReset ∧
      l.choose.rate = l.rate ∧ l.choose.receiver = l.receiver ∧ l.choose.discarded = l.discarded ∧
      l.choose.overrun = l.overrun ∧ l.choose.resetCause = l.resetCause ∧ l.choose.lostNotice = l.lostNotice := by
  rcases l with ⟨_, _, _, r, x, y, n, _, _, _, _, _⟩
  cases x <;> cases r <;> cases n <;> cases y <;> simp [Link.choose, Link.sendReply, Link.sendNotice]

theorem State.transmit_takesRequests {s : State} (h : s.TakesRequests) : s.transmit.TakesRequests := by
  obtain ⟨h1, h2, h3, h4⟩ := h
  obtain ⟨e2, e3, e4, _⟩ := s.link.choose_kept
  exact ⟨h1, by simp [State.transmit, State.modLink, *], by simp [State.transmit, State.modLink, *],
    by simp [State.transmit, State.modLink, *]⟩

/-! ## From the arrival to the answer -/

theorem KeptBut.refl (changed : List Block) (s : State) : KeptBut changed s s := by
  intro b _
  cases b <;> rfl

/-- A request that arrives when the link takes requests goes to its owner, whose answer fills the reply slot. -/
theorem State.request_of_takes {s : State} {tag : Byte} {r : Request} (hs : s.TakesRequests) (ht : tag ≠ 0)
    (hl : bodyLengths r.type ≠ []) (hd : Request.decode r.type r.fields = some r) :
    s.request tag r = (s.owner r).1.fillSlot (replyBody r.type tag (s.owner r).2) := by
  obtain ⟨h1, h2, h3, h4⟩ := hs
  have e : (s.modLink (fun l => { l with buffer := l.buffer ++ [r.body tag] })).serve = s.takeRequest (r.body tag) := by
    unfold State.serve
    simp [State.modLink, h2, h3, h4]
    congr 1
    cases s with
    | mk a b c d e f g l i j => cases l; simp_all
  unfold State.request State.acceptPacket
  rw [if_pos (by simp [h3, Config.bufferPackets]), e]
  simp [State.takeRequest, Request.body, State.takeTagged, State.typeRefusal, hl, h1, hd, State.handToOwner]
  exact fun h => absurd h ht

/-- What an answered request does, from what its owner does. -/
theorem answered_of_owner {i : Instr} {tag : Byte} {r : Request} {s u : State} {changed : List Block}
    {notices : List Notice} {a : Answer}
    (hi : exec i s = .next ((s.transmit.owner r).1.fillSlot (replyBody r.type tag (s.transmit.owner r).2)).transmit)
    (ho : s.transmit.owner r = (u, a)) (hk : KeptBut changed s.transmit u)
    (hn : u.link = s.transmit.link.postAll notices) :
    Answered i s (u.fillSlot (replyBody r.type tag a)).transmit changed notices (replyBody r.type tag a) := by
  refine ⟨by rw [hi, ho], ?_, ?_⟩
  · intro b hb
    have := hk b hb
    cases b <;> simpa [Block.same] using this
  · simp only [State.transmit, State.modLink, State.fillSlot, hn, Link.event, Link.answered]

end Sys2Proof.Machine
end

