-- ==== Sys2Proof/Tests/Slice0.lean ====
section
/-! SUPPORT. Tests: the checks of WellFormed, one small step of each command, and for each statement with hypotheses
states and operands that meet them. -/

namespace Sys2Proof.Tests

open Sys2Proof Sys2Proof.Machine

-- One test after another: side by side they would ask for more memory than the check gives.
set_option Elab.async false

/-! ## Small states -/

/-- Whether a command completes in a state that has a property. -/
def ok (i : Instr) (s : State) (p : State → Bool) : Bool :=
  match exec i s with
  | .next t => p t
  | .fault _ => false
  | .refused _ => false

/-- The state that commands lead to. -/
def ran (is : List Instr) (s : State) : State :=
  match runAll is s with
  | .next t => t
  | .fault _ => s
  | .refused _ => s

/-- The part Ready, with nothing waiting to leave. -/
def base : State :=
  { State.reset with
    settings := { State.reset.settings with ready := true }
    link := { State.reset.link with notices := [] } }

/-- A Held frame of one picture page. -/
def frame (n : Nat) : Frame :=
  { seq := n, timecode := some { hh := 0, mm := 0, ss := 0, ff := 0, source := .carried }
    pages := [{ lane := laneP, data := [1, 2] }], lanes := 1, condition := .whole
    pause := some { isPause := false, peak := -10 }, cues := [], captions := [], owing := 0, emitting := 0
    grabHold := false }

/-- `base` with `k` frames Held from number `a` on. -/
def held (a k : Nat) : State :=
  { base with
    store := { base.store with held := (List.range' a k).map frame }
    ingest := { base.ingest with mark := a + k } }

/-- The state with small targets, floors and spacings, so that a few frames make a depth. -/
def shaped (target floor : Nat) (s : State) : State :=
  s.modSettings (fun c =>
    { c with outlets := Vector.replicate 4 { OutletSettings.factory with target := target, floor := floor } })

/-- Outlet 1 started at `k` frames back, Holding, its reply sent. -/
def started (k : Half) (s : State) : State :=
  let t := ran [.outletStart 1 1 2 k] s
  t.modLink (fun _ => base.link)

/-- Outlet 1 in a state and at a read mark. -/
def outlet1 (x : OutletState) (n : Nat) (s : State) : State :=
  s.modOutlet 1 (fun u => { u with state := x, readMark := n })

/-- Ingest in a state, its port Closed. -/
def ingesting (x : IngestState) (s : State) : State := s.modIngest (fun u => { u with state := x })

/-- Ingest Running with an open frame with a record. -/
def filling (s : State) : State := ran [.frameStart none] (ingesting .running s)

/-- A cut record as the link makes it. -/
def record (id : Nat) (kind : CutKind) (first : Nat) (last : Option Nat) : CutRecord :=
  { id := id, kind := kind, lanes := allLanes, first := first, last := last, leastLast := none
    holders := if last = none then linkHolder else 0, origin := .link, outcomes := Vector.replicate 4 .idle }

/-- A state with records in the Cut Table. -/
def cutting (rs : List CutRecord) (s : State) : State := s.setCuts rs

/-- Watch slot 2 in a state, with a configuration. -/
def watching (x : SlotState) (c : Option WatchConfig) (s : State) : State :=
  s.modSlot 2 (fun k => { k with state := x, config := c })

/-- A Cue slot that compares every bit with 0102h. -/
def cueConfig (mode : WatchMode) (action : WatchAction) : WatchConfig :=
  { source := .cue, pattern := 0x0102, mask := 0xffff, timecode := { hh := 0, mm := 0, ss := 0, ff := 0 }
    compare := 0, mode := mode, action := action }

/-- An entry of the action queue for slot 2. -/
def entry (action : WatchAction) (waiting : OutletSet) : ActionEntry :=
  { slot := 2, lost := false, action := action, current := true, waiting := waiting, clipped := 0
    capture := { seq := 12, timecode := { hh := 1, mm := 2, ss := 3, ff := 4, source := .carried }, cue := none } }

/-- A state with entries in the action queue. -/
def queued (es : List ActionEntry) (s : State) : State := { s with watch := { s.watch with queue := es } }

/-- Clip 3 Ready with two filler frames. -/
def clipReady (s : State) : State :=
  s.modClip 3 (fun k =>
    { k with
      state := .ready, sourceFirst := some 10, count := 2, copied := 2
      frames := [10, 11].map (fun n =>
        { source := n, pages := [{ lane := laneP, data := [7] }], lanes := 1, condition := .whole }) })

/-- Frames 10 to 14 Held and a grab of 10 and 11 into clip 3 under way. -/
def grabbing : State := (ran [.clipGrab 1 3 10 2] (held 10 5)).modLink (fun _ => base.link)

/-- The notice that has begun to leave, and the notices that wait. -/
def leaving (s : State) : List Notice :=
  match s.link.transmitter with
  | .sendingNotice n => n :: s.link.notices
  | .idle => s.link.notices
  | .sendingReply => s.link.notices

/-- The first bytes of the reply in the reply slot. -/
def reply (k : Nat) (s : State) : List Byte := (s.link.reply.getD []).take k

/-! ## The checks of WellFormed -/

theorem test_wellFormed_tag :
    (Instr.status 0).wellFormed = false ∧ (Instr.status 1).wellFormed = true ∧
      (Instr.settingsDefault 255).wellFormed = true := by decide

theorem test_wellFormed_quarter :
    (Instr.quarterBoundary 1 0).wellFormed = false ∧ (Instr.quarterBoundary 1 1).wellFormed = true ∧
      (Instr.quarterBoundary 1 3).wellFormed = true := by decide

/-! ## One step of each command -/

theorem test_powerOnReset :
    ok (.powerOnReset PortReport.atReset) (held 10 5) (fun t =>
      t.store.held.isEmpty && t.ingest.mark == 0 && leaving t == [.restarted .powerOn] && !t.settings.ready) = true := by
  decide +kernel

theorem test_loadEnd_blank :
    ok (.loadEnd true) State.reset (fun t =>
      t.settings.ready && t.settings.lastLoad == some .check &&
        leaving t == [.restarted .powerOn, .settingsDefaulted .check]) = true := by decide +kernel

theorem test_loadEnd_profile :
    ok (.loadEnd true) { State.reset with
      settings := { State.reset.settings with flash := .words Settings.factory.profile } } (fun t =>
        t.settings.ready && t.settings.lastLoad == some .good && leaving t == [.restarted .powerOn]) = true := by
  decide +kernel

theorem test_saveWriteEnd :
    ok (.saveWriteEnd false) (ran [.settingsSave 1 none] base) (fun t =>
      t.settings.flash == .unsound && t.settings.save == .idle && leaving t == [.saveFailed]) = true := by decide +kernel

theorem test_controlByteReceived :
    ok (.controlByteReceived 0xa5) base (fun t => t.link.receiver == .inPacket []) = true := by decide +kernel

theorem test_status_by_bytes :
    (ran ([0xa5, 0x02, 0x01, 0x07, 0xf6].map .controlByteReceived) base |> reply 3) = [0x81, 0x07, 0x00] := by
  decide +kernel

theorem test_controlGapExpiry :
    ok .controlGapExpiry (ran [.controlByteReceived 0xa5] base) (fun t =>
      t.link.receiver == .idle && t.link.discarded == 1) = true := by decide +kernel

theorem test_transmitEnd :
    ok (.transmitEnd .b57600) (ran [.status 1] base) (fun t =>
      t.link.reply == none && t.link.transmitter == .idle) = true := by decide +kernel

theorem test_transmitEnd_reset :
    ok (.transmitEnd .b460800) (ran [.reset 1] base) (fun t =>
      t.link.resetCause == .soft && t.link.rate == .b460800 && leaving t == [.restarted .soft]) = true := by
  decide +kernel

theorem test_status_loading :
    ok (.status 9) State.reset (fun t => reply 3 t == [0x81, 9, 0x00]) = true := by decide +kernel

theorem test_reset :
    ok (.reset 9) base (fun t => t.link.pendingReset && reply 4 t == [0xff, 9, 0x00]) = true := by decide +kernel

theorem test_request_notReady :
    ok (.ingestStart 9) State.reset (fun t => reply 4 t == [0xa0, 9, 0x13] && t.ingest.state == .stopped) = true := by
  decide +kernel

theorem test_request_tag_zero :
    ok (.ingestStart 0) base (fun t => reply 4 t == [0xa0, 0, 0x12] && t.ingest.state == .stopped) = true := by
  decide +kernel

theorem test_outletStart :
    ok (.outletStart 4 1 0 0) (held 10 5) (fun t =>
      (t.outlet 1).state == .holding && (t.outlet 1).readMark == 15 &&
        t.link.reply == some [0x90, 4, 0x00, 1, 15, 0, 0, 0, 0]) = true := by decide +kernel

theorem test_outletStart_history :
    ok (.outletStart 4 1 2 3) (held 10 5) (fun t =>
      (t.outlet 1).readMark == 12 && t.store.held.map Frame.owing == [0, 0, 2, 2, 2]) = true := by decide +kernel

theorem test_outletStop :
    ok (.outletStop 4 1) (started 3 (held 10 5)) (fun t =>
      (t.outlet 1).state == .stopping && t.store.held.map Frame.owing == [0, 0, 0, 0, 0]) = true := by decide +kernel

theorem test_outletTarget :
    ok (.outletTarget 4 1 300) base (fun t =>
      (t.outletCfg 1).target == 300 && t.link.reply == some [0x92, 4, 0x00, 0x2c, 0x01]) = true := by decide +kernel

theorem test_outletFloor_locked :
    ok (.outletFloor 4 1 100) base (fun t =>
      (t.outletCfg 1).floor == 150 && t.link.reply == some [0x93, 4, 0x19, 150, 0, 210, 0]) = true := by decide +kernel

theorem test_outletFloor_open :
    ok (.outletFloor 4 1 100) (ran [.floorUnlock 1 1 0, .transmitEnd .b57600] base) (fun t =>
      (t.outletCfg 1).floor == 100 && !(t.outlet 1).unlockOpen) = true := by decide +kernel

theorem test_floorUnlock :
    ok (.floorUnlock 4 1 0) base (fun t => (t.outlet 1).unlockOpen) = true ∧
      ok (.floorUnlock 4 1 1) base (fun t => !(t.outlet 1).unlockOpen && reply 4 t == [0x94, 4, 0x1a]) = true := by
  decide +kernel

theorem test_outletShape :
    ok (.outletShape 4 1 64 8) base (fun t =>
      (t.outletCfg 1).spacing == 64 && t.link.reply == some [0x95, 4, 0x00, 64, 8, 0, 0]) = true := by decide +kernel

theorem test_outletClip :
    ok (.outletClip 4 1 7) base (fun t => (t.outletCfg 1).clip == 7 && reply 4 t == [0x96, 4, 0x00]) = true := by
  decide +kernel

theorem test_outletRead :
    ok (.outletRead 4 1 1) (base.modOutlet 1 (fun u => u.counting (fun c => { c with emitted := 5 }))) (fun t =>
      (t.outlet 1).counters == OutletCounters.zero && reply 3 t == [0x97, 4, 0x00]) = true := by decide +kernel

theorem test_ingestStart :
    ok (.ingestStart 4) base (fun t => t.ingest.state == .running && t.ingest.cause == .start &&
      reply 3 t == [0xa0, 4, 0x00]) = true := by decide +kernel

theorem test_ingestStop :
    ok (.ingestStop 4) (ingesting .bridging (held 10 5)) (fun t => t.ingest.state == .stopped) = true := by
  decide +kernel

theorem test_ingestRate :
    ok (.ingestRate 4 25) base (fun t => t.settings.current.rate == 25) = true ∧
      ok (.ingestRate 4 26) base (fun t => t.settings.current.rate == 30 && reply 3 t == [0xa2, 4, 0x12]) = true := by
  decide +kernel

theorem test_ingestPause :
    ok (.ingestPause 4 (some { threshold := 0xc4, cue := 5, enable := 1 })) base (fun t =>
      t.settings.current.threshold == -60 && t.settings.current.pauseCue == 5) = true := by decide +kernel

theorem test_retainSet :
    ok (.retainSet 4 2) (held 10 5) (fun t =>
      t.settings.current.retention == 2 && t.store.held.map Frame.seq == [13, 14]) = true := by decide +kernel

theorem test_frameRead :
    ok (.frameRead 4 12) (held 10 5) (fun t => reply 3 t == [0xa9, 4, 0x00]) = true ∧
      ok (.frameRead 4 15) (held 10 5) (fun t => t.link.reply == some [0xa9, 4, 0x1b]) = true := by decide +kernel

theorem test_cut :
    ok (.cut 4 0 0 12 (some 13)) (held 10 5) (fun t =>
      t.cuts.records == [record 1 .drop 12 (some 13)] && t.cuts.nextId == 2 && reply 3 t == [0xb0, 4, 0x00]) = true ∧
      ok (.cut 4 2 1 12 none) (held 10 5) (fun t => t.link.reply == some [0xb0, 4, 0x12]) = true := by decide +kernel

theorem test_cutClose :
    ok (.cutClose 4 6) (cutting [record 6 .drop 12 none] (outlet1 .holding 12 (held 10 5))) (fun t =>
      t.cuts.records.map CutRecord.last == [some 14] && t.cuts.records.map CutRecord.holders == [0]) = true := by
  decide +kernel

theorem test_cutRead :
    ok (.cutRead 4 6) (cutting [record 6 .drop 12 none] (held 10 5)) (fun t => reply 4 t == [0xb2, 4, 0x00, 6]) = true := by
  decide +kernel

theorem test_cutList :
    ok (.cutList 4 31) base (fun t => reply 3 t == [0xb3, 4, 0x00]) = true ∧
      ok (.cutList 4 32) base (fun t => t.link.reply == some [0xb3, 4, 0x12]) = true := by decide +kernel

/-- Fields of WATCH SET for a Repeating Cue slot that retargets outlet 1 to 300. -/
def watchFields : WatchFields :=
  { source := 0, pattern := 0x0102, mask := 0xffff, timecode := { hh := 0, mm := 0, ss := 0, ff := 0 }, compare := 0
    mode := 1, action := 2, kind := 0, lanes := 0, pre := 0, post := 0, outlets := 2, target := 300 }

theorem test_watchSet :
    ok (.watchSet 4 2 watchFields) base (fun t =>
      (t.slot 2).config == some (cueConfig .repeating (.retarget 2 300)) && reply 3 t == [0xc0, 4, 0x00]) = true := by
  decide +kernel

theorem test_watchArm :
    ok (.watchArm 4 2) base (fun t => (t.slot 2).state == .disabled && reply 3 t == [0xc1, 4, 0x15]) = true ∧
      ok (.watchArm 4 2) (watching .spent (some (cueConfig .once .report)) base) (fun t =>
        (t.slot 2).state == .armed) = true := by decide +kernel

theorem test_watchDisarm :
    ok (.watchDisarm 4 2) (watching .armed (some (cueConfig .once .report)) base) (fun t =>
      (t.slot 2).state == .disabled && (t.slot 2).config == some (cueConfig .once .report)) = true := by decide +kernel

theorem test_watchRead :
    ok (.watchRead 4 2) (base.modSlot 2 (fun k => { k with lost := true })) (fun t => !(t.slot 2).lost) = true := by
  decide +kernel

theorem test_clipGrab :
    ok (.clipGrab 4 3 10 2) (held 10 5) (fun t =>
      (t.clip 3).state == .grabbing && t.bank.engine == .copying 3 10 0 && t.freeFillerRecords == 478 &&
        t.store.held.map Frame.grabHold == [true, true, false, false, false]) = true := by decide +kernel

theorem test_clipClear :
    ok (.clipClear 4 3) (clipReady base) (fun t => t.clip 3 == Clip.emptied) = true ∧
      ok (.clipClear 4 3) grabbing (fun t =>
        t.bank.lastGrab == .aborted 3 .cleared 0 && leaving t == [.grabAborted 3 .cleared 0 10]) = true := by
  decide +kernel

theorem test_clipRead :
    ok (.clipRead 4 3 1) (clipReady base) (fun t => reply 3 t == [0xd2, 4, 0x00]) = true := by decide +kernel

theorem test_panelSet :
    ok (.panelSet 4 3 90 0x200 0xf 30) base (fun t =>
      (t.panelCfg 3).lanes == 0x200 && (t.panelCfg 3).preroll == 30) = true ∧
      ok (.panelSet 4 3 90 0x201 0xf 30) base (fun t => (t.panelCfg 3).lanes == 0x3fe) = true := by decide +kernel

theorem test_panelRestore :
    ok (.panelRestore 4 3) (base.modPanel 3 (fun p => { p with standing := .isolated, errorCount := 161 })) (fun t =>
      (t.panel 3).standing == .active && leaving t == [.panelStanding 3 .isolated .active 0]) = true := by
  decide +kernel

theorem test_panelRead :
    ok (.panelRead 4 3) base (fun t => reply 3 t == [0xe2, 4, 0x00]) = true := by decide +kernel

theorem test_settingsSave :
    ok (.settingsSave 4 (some { holdLimit := 25, floorKey := 9, ingestAuto := 1, outletAuto := 0xf2 })) base (fun t =>
      t.settings.current.holdLimit == 25 && (t.outletCfg 1).autostart && !(t.outletCfg 0).autostart &&
        t.settings.save == .writing t.settings.current.profile) = true := by decide +kernel

theorem test_settingsDefault :
    ok (.settingsDefault 4) (shaped 5 2 base) (fun t => t.settings.current == Settings.factory) = true := by
  decide +kernel

theorem test_panelByteReceived :
    (ran ([0xa5, 0x02, 0x01, 0x01, 0xfc].map (.panelByteReceived 2)) base).panel 2 |> fun p =>
      p.good = 1 ∧ p.receiver = .idle ∧ p.errorCount = 0 := by decide +kernel

theorem test_panelGapExpiry :
    ok (.panelGapExpiry 2) (ran [.panelByteReceived 2 0xa5] base) (fun t =>
      (t.panel 2).badGap == 1 && (t.panel 2).errorCount == 4) = true := by decide +kernel

theorem test_tallySent :
    ok (.tallySent 2) (base.modPanel 2 (fun p => { p with transmitter := .sending [1] })) (fun t =>
      (t.panel 2).transmitter == .idle) = true := by decide +kernel

theorem test_sourceLost :
    ok .sourceLost (ingesting .running base) (fun t =>
      t.ingest.state == .bridging && leaving t == [.ingestState .bridging .running .sourceLost 0]) = true := by
  decide +kernel

theorem test_sourceReturned :
    ok .sourceReturned ((ingesting .bridging base).modIngest (fun u => { u with source := .lost })) (fun t =>
      t.ingest.state == .running && t.ingest.source == .present) = true := by decide +kernel

theorem test_referenceLost :
    ok .referenceLost (ingesting .bridging base) (fun t => t.ingest.state == .unclocked) = true := by decide +kernel

theorem test_referenceReturned :
    ok .referenceReturned ((ingesting .unclocked base).modIngest (fun u => { u with source := .lost })) (fun t =>
      t.ingest.state == .bridging) = true := by decide +kernel

theorem test_referenceFrameTime :
    ok .referenceFrameTime (ingesting .bridging (held 10 5)) (fun t =>
      t.ingest.mark == 16 && t.ingest.bridged == 1 && (t.store.held.map Frame.condition).getLast? == some .empty) = true := by
  decide +kernel

theorem test_frameStart :
    ok (.frameStart none) (ingesting .running (held 10 5)) (fun t =>
      t.store.filling.map Frame.seq == some 15 && t.ingest.port.hasRecord) = true := by decide +kernel

theorem test_sectionData :
    ok (.sectionData (.picture [1, 2, 3])) (filling (held 10 5)) (fun t =>
      t.store.filling.map Frame.pages == some [{ lane := laneP, data := [1, 2, 3] }]) = true := by decide +kernel

theorem test_frameEnd :
    ok .frameEnd (filling (held 10 5)) (fun t =>
      t.ingest.mark == 16 && t.store.held.length == 6 && t.store.filling == none && t.ingest.completed == 1) = true := by
  decide +kernel

theorem test_storeReadError :
    ok (.storeReadError (.outlet 1))
      ((held 10 5).modOutlet 1 (fun u => { u with inFlight := .program 12 })) (fun t =>
        (t.heldFrame 12).map Frame.condition == some .damaged && (t.outlet 1).dataLost &&
          leaving t == [.frameDamaged 12 (.outlet 1)]) = true := by decide +kernel

theorem test_fillerReadError :
    ok (.fillerReadError 1) ((clipReady base).modOutlet 1 (fun u => { u with inFlight := .filler 3 0 })) (fun t =>
      (t.outlet 1).dataLost) = true := by decide +kernel

theorem test_periodStart :
    ok (.periodStart 1) (shaped 3 2 (outlet1 .steady 12 (held 10 5))) (fun t =>
      (t.outlet 1).inFlight == .program 12 && (t.outlet 1).readMark == 13 &&
        (t.heldFrame 12).map Frame.emitting == some 1) = true := by decide +kernel

theorem test_periodStart_holding :
    ok (.periodStart 1) (started 3 (held 10 5)) (fun t =>
      (t.outlet 1).inFlight == .black && (t.outlet 1).counters.filler == 1) = true := by decide +kernel

theorem test_quarterBoundary :
    ok (.quarterBoundary 1 3)
      (cutting [record 6 .mute 12 none] ((held 10 5).modOutlet 1 (fun u =>
        { u with state := .steady, inFlight := .program 12 }))) (fun t =>
          (t.outlet 1).quarter == 3 && (t.outlet 1).muteLanes == allLanes) = true := by decide +kernel

/-- Ten caption bytes leave as 2, 3, 2 and 3 bytes ("Quarters"). -/
theorem test_caption_quarters :
    (List.range 4).map (fun q => (quarterRun q (List.range 10)).length) = [2, 3, 2, 3] := by decide

theorem test_sinkLost :
    ok (.sinkLost 1) (outlet1 .stopping 12 (held 10 5)) (fun t =>
      (t.outlet 1).state == .off && (t.outlet 1).sink == .lost) = true := by decide +kernel

theorem test_sinkReturned :
    ok (.sinkReturned 1) (shaped 2 1 ((started 4 (held 10 5)).modOutlet 1 (fun u => { u with sink := .lost }))) (fun t =>
      (t.outlet 1).readMark == 13 && leaving t == [.rejoined 1 2]) = true := by decide +kernel

theorem test_adjustmentFallsDue :
    ok (.adjustmentFallsDue 1)
      ((outlet1 .rebuilding 12 (held 10 5)).modOutlet 1 (fun u =>
        { u with spacingCount := 11, inFlight := .program 11 })) (fun t =>
        (t.outlet 1).spacingCount == 0 && (t.outlet 1).deferred == 1) = true := by decide +kernel

theorem test_holdLimitClose :
    ok .holdLimitClose (cutting [record 6 .drop 10 none] (outlet1 .holding 10 (held 10 151))) (fun t =>
      t.cuts.records.map CutRecord.last == [some 160] && leaving t == [.holdTimedOut 6 .drop 10 160 linkHolder]) = true := by
  decide +kernel

theorem test_watchCut :
    ok .watchCut (queued [entry (.cut .drop allLanes 1 1) 0] (held 10 5)) (fun t =>
      t.watch.queue.isEmpty && t.cuts.records.map CutRecord.first == [11] && (t.slot 2).detail == .record 1) = true := by
  decide +kernel

theorem test_retarget :
    ok (.retarget 1) (queued [entry (.retarget 2 100) 2] base) (fun t =>
      (t.outletCfg 1).target == 150 && t.watch.queue.isEmpty && (t.slot 2).result == .clipped) = true := by
  decide +kernel

theorem test_copyPageDone :
    ok .copyPageDone grabbing (fun t =>
      t.bank.engine == .copying 3 11 0 && (t.clip 3).copied == 1 && (t.clip 3).pages == 1) = true := by decide +kernel

/-- With its sink Lost an outlet makes no adjustment due (R78). -/
theorem test_adjustmentFallsDue_lost :
    let s := (outlet1 .rebuilding 12 (held 10 5)).modOutlet 1 (fun u => { u with spacingCount := 11, sink := .lost })
    ok (.adjustmentFallsDue 1) s (fun t => t.outlets == s.outlets) = true := by decide +kernel

/-- After its sink has returned an outlet makes no adjustment due before its next period start (R78). -/
theorem test_adjustmentFallsDue_returned :
    let s := ran [.sinkLost 1, .sinkReturned 1] (shaped 5 1 ((outlet1 .rebuilding 12 (held 10 5)).modOutlet 1 (fun u =>
      { u with spacingCount := 11, deferred := 1, inFlight := .program 11 })))
    (s.outlet 1).sink = .present ∧ (s.outlet 1).spacingCount = 11 ∧
      ok (.adjustmentFallsDue 1) s (fun t => t.outlets == s.outlets) = true := by decide +kernel

/-- A record that reaches the limit as the edge moves by one frame closes one frame short of the edge (R111). -/
theorem test_frameStart_limit :
    ok (.frameStart none)
      ((cutting [record 6 .drop 10 none] (ingesting .running (held 10 25))).modSettings (fun c =>
        { c with holdLimit := 25 })) (fun t =>
          t.edge == some 35 && t.cuts.records.map CutRecord.last == [some 34] &&
            leaving t == [.holdTimedOut 6 .drop 10 34 linkHolder]) = true := by decide +kernel

/-- A grab of frames without pages is Ready in the event that takes it (R161). -/
theorem test_clipGrab_empty :
    ok (.clipGrab 1 3 10 2)
      ((held 10 5).setHeld ((held 10 5).store.held.map (fun f => { f with pages := [], condition := .empty })))
      (fun t => (t.clip 3).state == .ready && t.bank.engine == .idle && t.bank.lastGrab == .done 3 &&
        t.link.notices == [.grabDone 3 10 2 0]) = true := by decide +kernel

/-- Drop ready at a depth of exactly the span, where the range begins at N (R100, R132): an outlet that repeats frame N
is Inside all the same (log entry 50). -/
theorem test_dropReady_repeat :
    let s := ((outlet1 .rebuilding 12 (held 10 5)).modOutlet 1 (fun u => { u with inFlight := .again 12 })).modPanelCfg 2
      (fun c => { c with span := 3 })
    s.dropReady 2 = true ∧ (s.pressDrop 2).1.cuts.records.map (fun r => (r.first, r.outcomes[1])) = [(12, .inside)] := by
  decide +kernel

/-- With 32 notices waiting at the end of a reply, the notices of the next request are lost (log entry 49). -/
theorem test_transmitEnd_full :
    let s := base.modLink (fun l =>
      { l with
        reply := some [0x81, 1, 0], transmitter := .sendingReply, lastSent := .reply, buffer := [[0x10, 5, 1, 1, 0, 0]]
        notices := List.replicate 32 .saveFailed })
    ok (.transmitEnd .b57600) s (fun t =>
      t.link.lostNotice && t.link.notices.length == 31 && reply 3 t == [0x90, 5, 0x00]) = true := by decide +kernel

/-! ## Witnesses: states and operands that meet the hypotheses of each statement -/

theorem witness_StepTakesTheFront :
    (base.withPending [.frameEnd, .sourceLost]).pending = .frameEnd :: [.sourceLost] ∧ base.pending = [] := by
  decide +kernel

theorem witness_RequestsAreTaken :
    base.TakesRequests ∧ requestOf (.status 1) = some (1, .status) ∧
      requestOf (.cut 255 0 0 0 none) = some (255, .cut 0 0 0 0 0) ∧ (1 : Byte) ≠ 0 ∧ (255 : Byte) ≠ 0 := by
  decide +kernel

theorem witness_RequestsAreTaken_checks :
    (base.link.reply = none ∧ base.link.buffer = [] ∧ base.link.pendingReset = false ∧ base.settings.ready = true) ∧
      (State.reset.link.reply = none ∧ State.reset.link.buffer = [] ∧ State.reset.settings.ready = false) ∧
      bodyLengths 0x02 = [] ∧ bodyLengths 0xff = [] ∧ bodyLengths 0x10 ≠ [] ∧ bodyLengths 0x01 ≠ [] ∧
      ([1, 2] : List Byte).length + 2 ∉ bodyLengths 0x01 ∧
      2 ≤ (base.modLink (fun l => { l with buffer := [[1], [2]] })).link.buffer.length := by decide +kernel

theorem witness_BytesMakeAPacket :
    base.link.receiver = .idle ∧ base.link.choose = base.link ∧ ([1] : List Byte).length = 1 ∧
      (List.replicate 250 (7 : Byte)).length = 250 ∧ (0 : Byte) ≠ checkByte [1] := by decide +kernel

theorem witness_HostReceiver :
    base.link.receiver = .idle ∧
      (ran [.controlByteReceived sync] base).link.receiver = .inPacket [] ∧ 250 < (251 : Byte).toNat ∧
      (250 : Byte) ≠ 0 ∧ (250 : Byte).toNat ≤ 250 ∧ (1 : Byte).toNat ≤ 250 ∧
      (ran [.controlByteReceived sync, .controlByteReceived 1] base).link.receiver = .inPacket [1] ∧
      ([] : List Byte).length < (1 : Byte).toNat := by decide +kernel

theorem witness_TransmitterAlternates :
    (base.link.transmitter = .idle ∧ base.link.reply = none ∧ base.link.notices = []) ∧
      base.link.sendReply.transmitter ≠ .idle ∧ State.reset.link.notices = [.restarted .powerOn] ∧
      base.link.choose.transmitter = .idle ∧
      State.reset.link.choose.transmitter = .sendingNotice (.restarted .powerOn) ∧
      (let s := ran [.status 1] base
       s.link.choose.transmitter = .sendingReply ∧ s.link.pendingReset = false ∧ s.link.buffer = []) ∧
      (let s := ran [.status 1, .status 2] base
       s.link.choose.transmitter = .sendingReply ∧ s.link.pendingReset = false ∧
         s.link.buffer = [Request.status.body 2] ∧ s.link.reply = some (reply 100 s)) := by decide +kernel

theorem witness_ResetsTakeEffect_idle :
    (∀ ws, base.settings.save = .writing ws → base.settings.flash = .unsound) ∧
      (base.settings.save = .idle → base.settings.flash = base.settings.flash) ∧
      (base.bank.engine = .idle → LastGrab.none = .none) ∧
      (∀ c n k, base.bank.engine = .copying c n k → LastGrab.none = .aborted c .reset (base.clip c).copied) :=
  ⟨fun _ h => (SaveState.noConfusion h : False).elim, fun _ => rfl, fun _ => rfl,
    fun _ _ _ h => (CopyEngine.noConfusion h : False).elim⟩

theorem witness_ResetsTakeEffect_busy :
    (ran [.settingsSave 1 none] base).settings.save = .writing Settings.factory.profile ∧
      grabbing.bank.engine = .copying 3 10 0 ∧
      (ran [.reset 1] base).link.transmitter = .sendingReply ∧ (ran [.reset 1] base).link.pendingReset = true := by
  decide +kernel

theorem witness_StatusAndReset :
    base.link.reply = none ∧ base.link.buffer = [] ∧ base.link.pendingReset = false ∧ base.settings.ready = true ∧
      State.reset.link.reply = none ∧ State.reset.link.buffer = [] ∧ State.reset.link.pendingReset = false := by
  decide +kernel

theorem witness_RefusalsChangeNothing :
    (base.owner (.outletStop 4)).2.code.carriedOut = false ∧
      (base.owner (.outletFloor 1 100)).2.code.carriedOut = false := by decide +kernel

theorem witness_ReadsReport :
    (held 10 5).TakesRequests ∧ (held 10 5).frameOf 14 = some (true, frame 14) ∧ (held 10 5).frameOf 15 = none ∧
      (cutting [record 6 .drop 12 none] base).cutById 6 = some (record 6 .drop 12 none) ∧
      (cutting [record 6 .drop 12 none] base).cutPosition 6 = some 0 ∧ base.cutById 6 = none ∧
      (31 : Byte).toNat ≤ 31 ∧ 31 < (32 : Byte).toNat ∧ (7 : Byte).toNat = (7 : ClipId).val ∧
      (119 : Byte).toNat ≤ 119 ∧ 7 < (8 : Byte).toNat ∧ 119 < (120 : Byte).toNat ∧
      (3 : Byte).toNat = (3 : PanelId).val ∧ 3 < (4 : Byte).toNat := by decide +kernel

theorem witness_ReportLayouts :
    (let s := (clipReady (shaped 3 2 (held 10 5))).modOutlet 1 (fun u =>
       { u with state := .rebuilding, sink := .lost, exposure := true, readMark := 14, inFlight := .filler 3 1 })
     (s.outlet 1).sink = .lost ∧ (s.outlet 0).sink = .present ∧ (s.outlet 0).inFlight = .none ∧
       (s.outlet 1).inFlight = .filler 3 1 ∧ (s.bank.engine = .idle ∧ s.bank.lastGrab = .none) ∧
       field (replyOf .status 1 .done s.statusBytes) 41 4 = 0x0180 ∧
       field (s.tally 2) 4 3 = 0x011a) ∧
      (let f := { frame 12 with cues := [1, 2, 3, 0xffff], captions := List.replicate 128 65 }
       f.cues.length ≤ 4 ∧ f.captions.length ≤ 128 ∧ (f.bytes true).length = 157 ∧ field (f.bytes true) 26 2 = 0xffff) ∧
      ((Frame.fresh 12 .whole).timecode = none ∧ (Frame.fresh 12 .whole).pause = none) ∧
      (let s := cutting [record 6 .drop 12 none, record 7 .cover 13 (some 14)] base
       s.cuts.records[1]? = some (record 7 .cover 13 (some 14)) ∧ field (s.cutListBytes 1) 2 2 = 0x0107) ∧
      (let s := watching .armed (some (cueConfig .once (.cut .mute 2 3 4))) base
       (s.slot 2).config = some (cueConfig .once (.cut .mute 2 3 4)) ∧ (s.slot 3).config = none ∧
         (s.slot 2).capture = none ∧ (s.slot 2).detail = .none ∧ field (s.slotReport 2) 14 6 = 0x040300020201) ∧
      (grabbing.bank.engine = .copying 3 10 0 ∧ field (grabbing.clipReport 3) 11 6 = 0x0a0301) ∧
      (let s := base.modPanel 2 (fun x => { x with lastResult := some ⟨.cover, .letGo, .taken 9⟩ })
       field (s.panelReport 2) 4 4 = 0x09010304 ∧ field (s.tally 2) 15 4 = 0x09010304) := by decide +kernel

theorem witness_ProfileReadsBack : Settings.factory.Lawful := by decide +kernel

theorem witness_LoadEnds :
    State.reset.settings.ready = false ∧ base.settings.ready = true ∧
      ({ State.reset.settings with flash := .unsound } : SettingsStore).flash = .unsound ∧
      Settings.factory.Lawful ∧
      ({ State.reset.settings with flash := .words Settings.factory.profile } : SettingsStore).flash =
        .words Settings.factory.profile := by decide +kernel

theorem witness_SavesAndDefaults :
    base.TakesRequests ∧ base.settings.save = .idle ∧ yesNo 1 = some true ∧ 25 ≤ (25 : Half).toNat ∧
      (600 : Half).toNat ≤ 600 ∧ (24 : Half).toNat < 25 ∧ 600 < (601 : Half).toNat ∧
      (let s := (ran [.settingsSave 1 none] base).modLink (fun _ => base.link)
       s.TakesRequests ∧ s.settings.save = .writing Settings.factory.profile) ∧
      (let s := cutting [record 6 .drop 10 none] (held 10 150)
       s.quiet = true ∧ s.TakesRequests ∧ (ran [.settingsDefault 1] s).store.held.length = s.store.held.length ∧
         ∀ r ∈ s.cuts.records, r.limitReached 150 s.edge = false) ∧
      (let s := (held 10 3).modSettings (fun c => { c with retention := 2 })
       s.store.held.dropWhile (Frame.releasable 312 300) = [frame 12]) ∧
      base.quiet = true ∧ (ingesting .running base).quiet = false ∧ (ingesting .running base).TakesRequests := by
  decide +kernel

theorem witness_RefusalsChangeNothing_numbers :
    base.TakesRequests ∧ (1 : Byte) ≠ 0 ∧ 3 < (4 : Byte).toNat ∧ 7 < (8 : Byte).toNat ∧ 15 < (16 : Byte).toNat ∧
      2 < (3 : Byte).toNat ∧ 1 < (2 : Byte).toNat ∧ 15 < (255 : Byte).toNat := by decide +kernel

theorem witness_OutletStarts :
    (let s := held 10 5
     s.TakesRequests ∧ (s.outlet 1).state = .off ∧ 0 < (s.outletCfg 1).floor ∧
       (5 : Half).toNat ≤ s.store.held.length ∧ s.store.held.length < (6 : Half).toNat) ∧
      (let s := shaped 3 0 (held 10 5)
       (s.outletCfg 1).floor = 0 ∧ 0 < (s.outletCfg 1).target) ∧
      (let s := shaped 0 0 (held 10 5)
       (s.outletCfg 1).floor = 0 ∧ (s.outletCfg 1).target = 0) ∧
      ((started 3 (held 10 5)).TakesRequests ∧ ((started 3 (held 10 5)).outlet 1).state ≠ .off) ∧
      1920 < (1921 : Half).toNat := by decide +kernel

theorem witness_OutletStops :
    (let s := started 3 (held 10 5)
     s.TakesRequests ∧ s.isRunning 1 = true ∧ (s.outlet 1).sink = .present) ∧
      (base.TakesRequests ∧ base.isRunning 1 = false) ∧
      ((started 3 (held 10 5)).modOutlet 1 (fun u => { u with sink := .lost })).isRunning 1 = true := by decide +kernel

theorem witness_TargetShapeAndFloor :
    base.TakesRequests ∧ (base.outletCfg 1).floor ≤ (150 : Half).toNat ∧ (1920 : Half).toNat ≤ 1920 ∧
      (149 : Half).toNat < (base.outletCfg 1).floor ∧ 1920 < (1921 : Half).toNat ∧ 4 ≤ (4 : Byte).toNat ∧
      (64 : Byte).toNat ≤ 64 ∧ 1 ≤ (1 : Byte).toNat ∧ (8 : Byte).toNat ≤ 8 ∧ (3 : Byte).toNat < 4 ∧
      64 < (65 : Byte).toNat ∧ (0 : Byte).toNat < 1 ∧ 8 < (9 : Byte).toNat := by decide +kernel

theorem witness_TargetShapeAndFloor_floor :
    base.TakesRequests ∧ 1920 < (1921 : Half).toNat ∧
      ((149 : Half).toNat < (base.outletCfg 1).floor ∧ (base.outlet 1).unlockOpen = false) ∧
      ((base.outletCfg 1).floor ≤ (150 : Half).toNat ∧ (210 : Half).toNat ≤ (base.outletCfg 1).target) ∧
      ((base.outletCfg 1).target < (211 : Half).toNat ∧ (1920 : Half).toNat ≤ 1920) ∧
      ((base.modOutlet 1 (fun u => { u with unlockOpen := true })).outlet 1).unlockOpen = true := by decide +kernel

theorem witness_UnlockClipAndRead :
    base.TakesRequests ∧ (1 : Byte).toNat = (1 : OutletId).val ∧ (1 : Half) ≠ base.settings.current.floorKey ∧
      (7 : Byte).toNat = (7 : ClipId).val := by decide +kernel

theorem witness_FlightEnds :
    (base.outlet 1).inFlight = .none ∧
      (((held 10 5).modOutlet 1 (fun u => { u with inFlight := .program 12 })).outlet 1).inFlight = .program 12 ∧
      (((held 10 5).modOutlet 1 (fun u => { u with inFlight := .again 10 })).outlet 1).inFlight = .again 10 ∧
      (((clipReady base).modOutlet 1 (fun u => { u with inFlight := .filler 3 1 })).outlet 1).inFlight = .filler 3 1 ∧
      ((base.modOutlet 1 (fun u => { u with inFlight := .black })).outlet 1).inFlight = .black := by decide +kernel

theorem witness_DropRunPasses :
    let s := cutting [record 6 .drop 12 (some 13)] (started 3 (held 10 5))
    s.RingLaw ∧ s.ClaimLaw ∧ s.isRunning 1 = true ∧ (s.outlet 1).readMark = 12 ∧ s.dropGoverns 13 = true ∧
      s.dropGoverns 14 = false := by decide +kernel

/-- The choice of state at outlet 1 with target 20, floor 5 and tolerance 2, at a depth. -/
def choosing (old : OutletState) (depth : Nat) (exposure : Bool) : State :=
  shaped 20 5 ((outlet1 old (40 - depth) (held 10 30)).modOutlet 1 (fun u => { u with exposure := exposure }))

theorem witness_StateChoice :
    (let s := choosing .steady 4 false
     s.depth 1 < (s.outletCfg 1).floor ∧ (s.outlet 1).exposure = false) ∧
      (let s := choosing .rebuilding 4 true
       s.depth 1 < (s.outletCfg 1).floor ∧ (s.outlet 1).exposure = true) ∧
      (let s := choosing .holding 5 false
       ¬ s.depth 1 < (s.outletCfg 1).floor ∧ s.depth 1 < (s.outletCfg 1).target) ∧
      (choosing .holding 20 false).depth 1 = 20 ∧ (choosing .rebuilding 20 false).depth 1 = 20 ∧
      (choosing .steady 17 false).depth 1 + 2 < 20 ∧ 20 ≤ (choosing .steady 18 false).depth 1 + 2 ∧
      (choosing .steady 22 false).depth 1 ≤ 20 + 2 ∧ 20 + 2 < (choosing .steady 23 false).depth 1 ∧
      (choosing .squeezing 20 false).depth 1 ≤ 20 ∧ 20 < (choosing .squeezing 21 false).depth 1 := by decide +kernel

theorem witness_ProgramChoiceRows :
    (let s := outlet1 .steady 15 (held 10 5)
     s.isHeld 15 = false ∧ s.ingest.mark ≤ (s.outlet 1).readMark) ∧
      (let s := cutting [record 6 .cover 14 (some 14)] (outlet1 .steady 14 (held 10 5))
       s.dropGoverns 14 = false ∧ (s.outlet 1).readMark < s.ingest.mark ∧ s.coverGoverns 14 = true) ∧
      (let s := cutting [record 6 .cover 14 (some 14)] (outlet1 .steady 13 (held 10 5))
       (s.outlet 1).readMark < s.ingest.mark ∧ s.coverGoverns 13 = false) := by decide +kernel

/-- Outlet 1 in a state at frame 12, with counts, frame 12 a pause frame or not. -/
def deciding (x : OutletState) (spacingCount deferred : Nat) (pause : Bool) : State :=
  ((outlet1 x 12 (held 10 5)).modOutlet 1 (fun u =>
    { u with spacingCount := spacingCount, deferred := deferred })).modFrame 12 (fun f =>
      { f with pause := some { isPause := pause, peak := -50 } })

theorem witness_DecisionTable :
    ((deciding .holding 0 0 false).outlet 1).state = .holding ∧ ((deciding .steady 0 0 false).outlet 1).state = .steady ∧
      (outlet1 .rebuilding 15 (held 10 5)).isHeld 15 = false ∧
      (let s := deciding .rebuilding 11 0 true
       s.isHeld 12 = true ∧ (s.outlet 1).spacingCount + 1 = (s.outletCfg 1).spacing ∧
         ((s.heldFrame 12).bind Frame.pause).map PauseMark.isPause = some true) ∧
      (let s := deciding .rebuilding 0 8 false
       s.isHeld 12 = true ∧ (s.outlet 1).deferred = 8 ∧
         ((s.heldFrame 12).bind Frame.pause).map PauseMark.isPause = some false) ∧
      ((deciding .rebuilding 0 7 false).outlet 1).deferred ≠ 8 ∧
      ((deciding .squeezing 0 1 true).outlet 1).state = .squeezing ∧
      ((deciding .squeezing 0 8 false).outlet 1).deferred = 8 ∧ ((deciding .squeezing 0 0 true).outlet 1).deferred = 0 := by
  decide +kernel

theorem witness_Adjustments :
    (cutting [record 6 .cover 12 (some 12)] (deciding .rebuilding 0 1 true)).coverGoverns 12 = true ∧
      (deciding .rebuilding 0 1 true).coverGoverns 12 = false ∧
      (((deciding .rebuilding 0 8 false).modOutlet 1 (fun u => { u with lastEmission := .filler })).outlet 1).lastEmission =
        .filler ∧
      (let s := (deciding .rebuilding 0 8 false).modOutlet 1 (fun u =>
         { u with lastEmission := .program, lastProgram := some 11 })
       (s.outlet 1).lastProgram = some 11 ∧ s.dropGoverns 11 = false ∧ s.coverGoverns 11 = false ∧ s.isHeld 11 = true ∧
         (cutting [record 6 .drop 11 (some 11)] s).dropGoverns 11 = true ∧ s.isHeld 9 = false) := by decide +kernel

theorem witness_PeriodStarts :
    ((base.outlet 1).sink = .present ∧ (base.outlet 1).state = .off) ∧
      ((base.modOutlet 1 (fun u => { u with sink := .lost })).outlet 1).sink = .lost ∧
      ((outlet1 .stopping 12 base).outlet 1).state = .stopping ∧
      ((started 3 (held 10 5)).isRunning 1 = true ∧ ((started 3 (held 10 5)).outlet 1).sink = .present) := by
  decide +kernel

theorem witness_SteadyTakes :
    let s := shaped 5 2 (outlet1 .steady 12 (held 10 5))
    let p := s.endFlight 1
    (p.outlet 1).sink = .present ∧ (p.outlet 1).state = .steady ∧ (p.outlet 1).readMark < s.ingest.mark ∧
      p.dropGoverns 12 = false ∧ p.coverGoverns 12 = false ∧ (s.outletCfg 1).floor ≤ p.depth 1 ∧
      (s.outletCfg 1).target ≤ p.depth 1 + (s.outletCfg 1).tolerance ∧
      p.depth 1 ≤ (s.outletCfg 1).target + (s.outletCfg 1).tolerance := by decide +kernel

theorem witness_GovernedFramesDoNotAir :
    let s := (shaped 3 2 (started 3 (held 10 5))).modOutlet 1 (fun u => { u with state := .steady })
    s.RingLaw ∧ s.ClaimLaw ∧ (s.outlet 1).sink = .present ∧ s.isRunning 1 = true ∧
      ((ran [.periodStart 1] s).outlet 1).inFlight = .program 12 := by decide +kernel

theorem witness_QuartersAndDue :
    (let s := (outlet1 .steady 13 (held 10 5)).modOutlet 1 (fun u => { u with inFlight := .program 12 })
     (1 : BitVec 2) ≠ 0 ∧ (3 : BitVec 2) ≠ 0 ∧ (s.outlet 1).sink = .present ∧ (s.outlet 1).state ≠ .off ∧
       (s.outlet 1).inFlight ≠ .none) ∧
      (base.outlet 1).state = .off ∧
      (let s := (deciding .rebuilding 11 8 false).modOutlet 1 (fun u => { u with inFlight := .again 11 })
       (s.outlet 1).sink = .present ∧ (s.outlet 1).inFlight ≠ .none ∧ (s.outlet 1).state = .rebuilding ∧
         (s.outlet 1).spacingCount + 1 = (s.outletCfg 1).spacing) ∧
      (let s := deciding .squeezing 10 0 false
       (s.outlet 1).spacingCount + 1 ≠ (s.outletCfg 1).spacing) := by decide +kernel

theorem witness_QuartersAndDue_port :
    ((base.modOutlet 1 (fun u => { u with sink := .lost })).outlet 1).sink = .lost ∧ (base.outlet 1).inFlight = .none ∧
      (held 10 5).heldFrame 12 = some (frame 12) ∧
      (let s := (clipReady base).modOutlet 1 (fun u => { u with inFlight := .filler 3 1 })
       (s.outlet 1).inFlight = .filler 3 1 ∧ ((s.clip 3).frames[1]?).isSome = true ∧
         (s.onAir 1).picture = some [7]) ∧ (0 : Nat) < 4 ∧ (3 : Nat) < 4 ∧ (0 : Nat) < 1 := by decide +kernel

theorem witness_Sinks :
    (base.outlet 1).sink = .present ∧
      (let s := base.modOutlet 1 (fun u => { u with sink := .lost })
       (s.outlet 1).sink = .lost ∧ s.isRunning 1 = false) ∧
      (let s := shaped 3 1 ((started 3 (held 10 5)).modOutlet 1 (fun u => { u with sink := .lost }))
       s.isRunning 1 = true ∧ s.depth 1 - (s.outletCfg 1).target = 0) ∧
      (let s := shaped 2 1 ((started 3 (held 10 5)).modOutlet 1 (fun u => { u with sink := .lost }))
       s.isRunning 1 = true ∧ 0 < s.depth 1 - (s.outletCfg 1).target ∧
         (ran [.sinkReturned 1] s).store.held.length = s.store.held.length) ∧
      (let s := (shaped 2 1 ((started 5 (held 10 5)).modOutlet 1 (fun u => { u with sink := .lost }))).modSettings
         (fun c => { c with retention := 3 })
       (ran [.sinkReturned 1] s).store.held.map Frame.seq = [12, 13, 14]) := by decide +kernel

theorem witness_ReadErrors :
    (let s := (held 10 5).modOutlet 1 (fun u => { u with inFlight := .program 12 })
     flightFrame (s.outlet 1).inFlight = some 12 ∧ s.heldFrame 12 = some (frame 12) ∧ (frame 12).condition = .whole ∧
       s.RingLaw) ∧
      (let s := ((held 10 5).modOutlet 1 (fun u => { u with inFlight := .again 12 })).modFrame 12 (fun f =>
         { f with condition := .damaged })
       s.heldFrame 12 = some { frame 12 with condition := .damaged }) ∧
      flightFrame (base.outlet 1).inFlight = none ∧ base.bank.engine = .idle ∧
      (grabbing.bank.engine = .copying 3 10 0 ∧ grabbing.heldFrame 10 = some { frame 10 with grabHold := true } ∧
        grabbing.RingLaw) ∧
      (((clipReady base).modOutlet 1 (fun u => { u with inFlight := .filler 3 1 })).outlet 1).inFlight = .filler 3 1 := by
  decide +kernel

/-- A full ring of frames 10 to 2,057, the oldest with an emitting count and a grab hold. -/
def full (emitting : Nat) (hold : Bool) : State :=
  ingesting .running
    (if emitting = 0 ∧ hold = false then held 10 2048
     else (held 10 2048).modFrame 10 (fun f => { f with emitting := emitting, grabHold := hold }))

/-- Ingest Running with an open frame without a record. -/
def closed_off (s : State) : State := (ingesting .running s).modIngest (fun u => { u with port := .withoutRecord })

theorem witness_IngestRequests :
    (base.TakesRequests ∧ base.ingest.state = .stopped ∧ base.ingest.mark < 4294967296 ∧
      base.ingest.reference = .present ∧ base.ingest.source = .present) ∧
      (base.modIngest (fun u => { u with reference := .lost })).ingest.reference = .lost ∧
      (base.modIngest (fun u => { u with source := .lost })).ingest.source = .lost ∧
      4294967296 ≤ (base.modIngest (fun u => { u with mark := 4294967296 })).ingest.mark ∧
      (let s := ingesting .bridging (held 10 5)
       s.TakesRequests ∧ s.ingest.state ≠ .stopped ∧ s.store.filling = none ∧ s.quiet = false) ∧
      (let s := filling (held 10 5)
       s.TakesRequests ∧ s.ingest.state ≠ .stopped ∧ s.store.filling.isSome = true) ∧
      base.quiet = true ∧ (26 : Byte) ≠ 24 ∧ (26 : Byte) ≠ 25 ∧ (26 : Byte) ≠ 30 ∧
      -60 ≤ (0xc4 : Byte).toInt ∧ (0xec : Byte).toInt ≤ -20 ∧ (0xc3 : Byte).toInt < -60 ∧ -20 < (0xed : Byte).toInt ∧
      1 < (2 : Byte).toNat ∧ (1920 : Half).toNat ≤ 1920 ∧ 1920 < (1921 : Half).toNat := by decide +kernel

theorem witness_Conditions :
    base.ingest.state = .stopped ∧ (ingesting .unclocked base).ingest.state = .unclocked ∧
      ((ingesting .running base).ingest.state = .running ∧ (ingesting .running base).ingest.port = .closed) ∧
      ((filling base).ingest.state = .running ∧ (filling base).ingest.port.hasRecord = true) ∧
      (ingesting .bridging base).ingest.state = .bridging ∧ (ingesting .unclocked base).ingest.source = .present ∧
      ((ingesting .unclocked base).modIngest (fun u => { u with source := .lost })).ingest.source = .lost := by
  decide +kernel

theorem witness_FrameStarts :
    base.ingest.state ≠ .running ∧
      (let s := ingesting .running (held 10 2047)
       s.ingest.state = .running ∧ s.ingest.port = .closed ∧ s.store.inUse < 2048) ∧
      (let s := full 1 false
       s.ingest.port = .closed ∧ 2048 ≤ s.store.inUse ∧ s.store.held.head?.map Frame.emitting = some 1) := by
  decide +kernel

theorem witness_FrameStarts_evicts :
    let s := full 0 false
    s.ingest.state = .running ∧ 2048 ≤ s.store.inUse ∧ s.ingest.port = .closed ∧ s.transmit.tryEvict.isSome = true := by
  decide +kernel

theorem witness_Eviction :
    base.store.held = [] ∧ (full 1 false).store.held.head?.map Frame.emitting = some 1 ∧
      (full 0 false).store.held.head? = some (frame 10) ∧ (full 0 false).bank.engine = .idle ∧
      grabbing.store.held.head? = some { frame 10 with grabHold := true } ∧ grabbing.bank.engine = .copying 3 10 0 := by
  decide +kernel

/-- An open frame with one page of lane A1 of `n` bytes, and `k` captions and cues. -/
def opened (n k : Nat) : State :=
  (filling (held 10 5)).setFilling (some
    { frame 15 with
      pages := [{ lane := 1, data := List.replicate n 0 }], lanes := 2
      captions := List.replicate k 65, cues := List.replicate k 1 })

theorem witness_SectionDataKept :
    base.ingest.state ≠ .running ∧ (closed_off base).ingest.port = .withoutRecord ∧
      (let s := filling (held 10 5)
       s.ingest.state = .running ∧ s.ingest.port = .withRecord { lane := none, truncated := false, carried := none } ∧
         s.store.filling.map Frame.pages = some [] ∧ s.freePages = 131067) ∧
      (opened 1 128).store.filling.map (fun f => f.captions.length) = some 128 ∧
      (opened 1 3).store.filling.map (fun f => f.cues.length) = some 3 ∧
      (opened 1 4).store.filling.map (fun f => f.cues.length) = some 4 := by decide +kernel

theorem witness_SectionDataKept_lanes :
    (ran [.sectionData (.audio 0 [1, 2])] (filling (held 10 5))).ingest.port =
        .withRecord { lane := some 1, truncated := false, carried := none } ∧
      (0 : Lane) < 1 ∧ ((0 : Fin 8).val + 1 = (1 : Lane).val) ∧ ((7 : Fin 8).val + 1 = (8 : Lane).val) ∧
      ((opened 16383 0).store.filling.map (fun f => f.pages.map (fun p => p.data.length + 1)) = some [16384]) ∧
      (List.replicate 64 ({ lane := 0, data := [1] } : Page)).length = 64 := by decide +kernel

theorem witness_Completions :
    (let s := filling (held 10 5)
     s.ingest.state = .running ∧ s.store.filling.isSome = true ∧ s.ingest.mark < 4294967296 ∧
       s.ingest.port = .withRecord { lane := none, truncated := false, carried := none }) ∧
      (let s := ingesting .bridging (held 10 5)
       s.ingest.state = .bridging ∧ s.store.filling = none ∧ s.ingest.port = .closed ∧ s.store.inUse < 2048) ∧
      (ingesting .bridging (base.modIngest (fun u => { u with mark := 4294967295 }))).ingest.mark + 1 = 4294967296 := by
  decide +kernel

theorem witness_OtherFrameEnds :
    base.ingest.port = .closed ∧ base.ingest.state ≠ .running ∧ base.ingest.state ≠ .bridging ∧
      ((closed_off base).ingest.state = .running ∧ (closed_off base).ingest.port = .withoutRecord) ∧
      (filling base).store.filling.isSome = true ∧
      (filling base).ingest.port = .withRecord { lane := none, truncated := false, carried := none } ∧
      (let s := ingesting .bridging (full 1 false)
       s.ingest.state = .bridging ∧ 2048 ≤ s.store.inUse ∧ s.store.held.head?.map Frame.emitting = some 1) := by
  decide +kernel

theorem witness_TimecodeAndPause :
    ((23 : Byte).toNat < 24 ∧ (59 : Byte).toNat < 60 ∧ (29 : Byte).toNat < 30) ∧ 24 ≤ (24 : Byte).toNat ∧
      60 ≤ (60 : Byte).toNat ∧ 30 ≤ (30 : Byte).toNat ∧
      (∀ p ∈ ([{ lane := 0, data := [1] }, { lane := 1, data := [] }] : List Page), p.lane = laneA1 → p.data = []) ∧
      (10 ^ 20 * 10 ^ 20 ≤ 100 ^ 20 ∧ 100 ^ 20 < 10 ^ 20 * 10 ^ (20 + 1)) ∧ 0 ^ 20 * 10 ^ 96 ≤ 7 ^ 20 := by
  decide +kernel

theorem witness_TimecodeAndPause_peak :
    laneData laneA1 [{ lane := 0, data := [1] }, { lane := 1, data := [5] }] ≠ [] ∧ ([5] : List Byte) ≠ [] := by
  decide +kernel

theorem witness_OutcomesAndJoining :
    base.isRunning 1 = false ∧
      (let s := outlet1 .steady 12 (held 10 5)
       s.isRunning 1 = true ∧ 11 < (s.outlet 1).readMark ∧ ¬ (record 6 .drop 12 (some 12)).first < (s.outlet 1).readMark ∧
         (record 6 .drop 11 none).first < (s.outlet 1).readMark) ∧
      (record 6 .drop 11 none).meets (some 14) (record 7 .drop 15 (some 16)) = true ∧
      (record 6 .drop 11 (some 12)).meets (some 14) (record 7 .drop 12 none) = true ∧
      ([] : List Draft).length ≤ 0 + 1 ∧ CutOutcome.tooLate ≠ .idle ∧
      (let ds := ({ record := record 6 .drop 12 none, before := none, asked := true } : Draft) :: []
       ∀ d ∈ ds, d.record.covers (some 14) 14 = true ∧ d.asked = true) := by decide +kernel

theorem witness_OutcomesAndJoining_lawful :
    (record 6 .drop 11 none).Lawful ∧ (record 7 .drop 15 (some 16)).Lawful ∧ (record 7 .drop 12 none).Lawful ∧
      (record 6 .drop 11 (some 12)).Lawful := by decide +kernel

/-- A Cut Table of 32 records, of one kind. -/
def crowded (kind : CutKind) : State :=
  cutting ((List.range 32).map (fun i => record (i + 1) kind (100 + 4 * i) (some (101 + 4 * i)))) (held 10 5)

theorem witness_CutRequests :
    (held 10 5).TakesRequests ∧ 2 < (3 : Byte).toNat ∧ lanesOf 0xfc00 = 0 ∧ member (lanesOf 1) 0 = true ∧
      (held 10 5).edge = some 14 ∧ base.edge = none ∧ base.store.held = [] ∧ (held 10 5).oldestHeld = some 10 ∧
      (14 + 255 < (270 : BitVec 32).toNat ∧ ¬ 14 + 255 < (269 : BitVec 32).toNat) ∧
      ((11 : BitVec 32).toNat < (12 : BitVec 32).toNat ∧ (9 : BitVec 32).toNat < 10 ∧ 10 ≤ (10 : BitVec 32).toNat) ∧
      (let s := held 10 5
       let x : CutRecord := { record 1 .drop 12 none with outcomes := Vector.ofFn (s.outcomeFor (record 1 .drop 12 none)) }
       s.CutLaw ∧ s.cuts.records.length < 32 ∧ x.limitReached 150 s.edge = false ∧
         ¬ ∃ y ∈ s.cuts.records, y.meets s.edge x = true) ∧
      (∃ y ∈ (crowded .drop).cuts.records, y.meets (some 14) (record 33 .drop 102 (some 103)) = true) ∧
      (32 ≤ (crowded .drop).cuts.records.length ∧ (∃ y ∈ (crowded .drop).cuts.records, y.kind = .drop) ∧
        ¬ ∃ y ∈ (crowded .drop).cuts.records, y.meets (some 14) (record 33 .drop 12 (some 13)) = true) ∧
      (32 ≤ (crowded .cover).cuts.records.length ∧ ∀ y ∈ (crowded .cover).cuts.records, y.kind ≠ .drop) := by
  decide +kernel

/-- A Drop that ends one frame past a record of a full table is Merged into it, and meets no other. -/
theorem witness_CutRequests_merged :
    (let s := crowded .drop
     let y := record 1 .drop 100 (some 101)
     let x := record 33 .drop 102 (some 102)
     s.cuts.records = [] ++ y :: s.cuts.records.tail ∧ y.meets s.edge x = true ∧
       ([] ++ y.join x :: s.cuts.records.tail).Pairwise (fun a b : CutRecord => a.meets s.edge b = false) ∧
       (∀ r ∈ s.cuts.records, s.retirable r = false)) ∧
      ok (.cut 4 0 0 102 (some 102)) (crowded .drop) (fun t =>
        t.cuts.records.map (fun r => (r.id, r.last)) ==
          (1, some 102) :: ((crowded .drop).cuts.records.tail.map (fun r => (r.id, r.last))) &&
        reply 4 t == [0xb0, 4, 0x01, 1]) = true := by decide +kernel

/-- An open CUT joined to a record that reaches back further than the hold limit closes at the limit (log entry 44). -/
theorem witness_CutRequests_limit :
    let s := (cutting [record 6 .drop 10 (some 12)] (held 10 30)).modSettings (fun c => { c with holdLimit := 25 })
    s.edge = some 39 ∧ (record 6 .drop 10 (some 12)).meets s.edge (record 7 .drop 13 none) = true ∧
      ((record 6 .drop 10 (some 12)).join (record 7 .drop 13 none)).limitReached 25 s.edge = true ∧
      s.retirable (record 6 .drop 10 (some 34)) = false ∧
      ok (.cut 4 0 0 13 none) s (fun t =>
        t.cuts.records.map (fun r => (r.id, r.first, r.last)) == [(6, 10, some 34)] &&
          leaving t == [.holdTimedOut 6 .drop 10 34 linkHolder]) = true := by decide +kernel

/-- A full table with one Drop, which a Drop that meets nothing widens. -/
theorem witness_CutRequests_widened :
    let covers := (crowded .cover).cuts.records
    let y := record 40 .drop 300 (some 301)
    let x := record 33 .drop 12 (some 13)
    let s := cutting (covers.take 3 ++ y :: covers.drop 4) (held 10 5)
    32 ≤ s.cuts.records.length ∧ y.kind = .drop ∧ (∀ z ∈ covers.drop 4, z.kind ≠ .drop) ∧
      (¬ ∃ z ∈ s.cuts.records, z.meets s.edge x = true) ∧
      (covers.take 3 ++ y.join x :: covers.drop 4).Pairwise (fun a b : CutRecord => a.meets s.edge b = false) ∧
      ok (.cut 4 0 0 12 (some 13)) s (fun t =>
        t.cuts.records.map (fun r => (r.id, r.first, r.last)) ==
          (covers.take 3 ++ { y with first := 12 } :: covers.drop 4).map (fun r => (r.id, r.first, r.last)) &&
        reply 4 t == [0xb0, 4, 0x02, 40]) = true := by decide +kernel

theorem witness_CutCloses :
    (let s := cutting [record 6 .drop 12 none] (outlet1 .holding 12 (held 10 5))
     s.TakesRequests ∧ (record 6 .drop 12 none).last = none ∧ member linkHolder 4 = true ∧
       linkHolder &&& 0x0f = 0 ∧ (record 6 .drop 12 none).coveredEnd s.edge = some 14 ∧
       ∀ r ∈ s.cuts.records, r.id ≠ 7) ∧
      member (0x12 : HolderSet) 4 = true ∧ (0x12 : HolderSet) &&& 0x0f ≠ 0 ∧ member (0x02 : HolderSet) 4 = false ∧
      (record 6 .drop 15 none).coveredEnd (held 10 5).edge = none ∧ 1 ≤ (record 6 .drop 15 none).first := by
  decide +kernel

/-- The law of the Cut Table holds in the states of a CUT CLOSE. -/
def cutLawful (s : State) : Bool := decide s.CutLaw

theorem witness_CutCloses_law :
    cutLawful (cutting [record 6 .drop 12 none] (outlet1 .holding 12 (held 10 5))) = true ∧
      cutLawful (cutting [record 6 .drop 12 (some 13)] (held 10 5)) = true ∧
      cutLawful (cutting [{ record 6 .drop 12 none with holders := 0x12 }] (held 10 5)) = true ∧
      cutLawful (cutting [{ record 6 .drop 12 none with holders := 0x02 }] (held 10 5)) = true ∧
      cutLawful (cutting [record 6 .drop 15 none] (held 10 5)) = true := by decide +kernel

/-- The open record closed at its 26th frame, as outlet 1 stands at frame 10. -/
theorem witness_HoldLimitCloses :
    base.edge = none ∧
      (let s := (cutting [record 6 .drop 10 none] (outlet1 .holding 10 (held 10 26))).modSettings (fun c =>
         { c with holdLimit := 25 })
       s.edge = some 35 ∧ 10 + s.settings.current.holdLimit < 35 + 1 ∧
         s.retirable (s.passRecord { record 6 .drop 10 none with last := some 35, holders := 0 }) = false) ∧
      (let s := (cutting [record 6 .drop 10 none] (outlet1 .holding 10 (held 10 25))).modSettings (fun c =>
         { c with holdLimit := 25 })
       s.edge = some 34 ∧ ¬ 10 + s.settings.current.holdLimit < 34 + 1) := by decide +kernel

/-- The edge moved from 34 to 35 with records at, below and above the limit; two that meet; and a frame that a record
covered before. -/
theorem witness_EdgeMoves :
    (let s := (cutting [record 6 .drop 10 none, record 7 .cover 11 none, record 8 .drop 100 (some 101)]
         (held 10 26)).modSettings (fun c => { c with holdLimit := 25 })
     s.edge = some 35 ∧ s.MeetLaw ∧ s.oldestHeld = some 10 ∧
       (record 6 .drop 10 none).covers (some 34) 34 = true ∧ 10 ≤ 34 ∧ (34 : Nat) ≤ 35 ∧
       (s.edgeMoved (some 34)).cuts.records.map CutRecord.last = [some 34, none, some 101]) ∧
      (let a := record 6 .drop 34 none
       let b := record 8 .drop 36 (some 40)
       let s := cutting [a, record 7 .cover 30 none, b] (held 10 26)
       s.cuts.records = [] ++ a :: ([record 7 .cover 30 none] ++ b :: []) ∧ a.meets s.edge b = true ∧
         a.meets (some 34) b = false ∧
         ([] ++ a.join b :: ([record 7 .cover 30 none] ++ [])).Pairwise (fun x y : CutRecord => x.meets s.edge y = false)) := by
  decide +kernel

theorem witness_CueCriteria :
    (cueConfig .once .report).source = .cue ∧ (cueConfig .once .report).mask = 0xffff ∧
      ({ cueConfig .once .report with mask := 0xff00 } : WatchConfig).mask = 0xff00 ∧
      ({ cueConfig .once .report with mask := 0 } : WatchConfig).mask = 0 := by decide +kernel

theorem witness_Takes :
    let x : Item := { seq := 12, timecode := { hh := 1, mm := 2, ss := 3, ff := 4, source := .carried }, cue := some 0x0102 }
    (∀ k : SlotId, (base.slot k).wants x = false) ∧
      (let s := watching .armed (some (cueConfig .once .report)) base
       (s.slot 2).state = .armed ∧ (s.slot 2).config = some (cueConfig .once .report) ∧
         (cueConfig .once .report).meets x = true ∧ (∀ j : SlotId, j < 2 → (s.slot j).wants x = false)) ∧
      (let c := cueConfig .repeating (.retarget 2 300)
       let s := queued (List.replicate 15 (entry .report 0)) (watching .armed (some c) base)
       (s.slot 2).state = .armed ∧ c.action ≠ .report ∧ s.watch.queue.length < 16) ∧
      16 ≤ (queued (List.replicate 16 (entry .report 0)) base).watch.queue.length := by decide +kernel

theorem witness_WatchActions :
    (∀ x ∈ base.watch.queue, x.action = .report) ∧
      (let s := queued [entry (.retarget 2 100) 2, entry (.cut .drop allLanes 1 1) 0, entry .report 0] (held 10 5)
       s.watch.queue = [entry (.retarget 2 100) 2] ++ entry (.cut .drop allLanes 1 1) 0 :: [entry .report 0]) ∧
      (let s := queued [entry (.cut .drop allLanes 1 1) 0, entry (.retarget 6 100) 6] base
       s.watch.queue = [entry (.cut .drop allLanes 1 1) 0] ++ entry (.retarget 6 100) 6 :: [] ∧
         member (entry (.retarget 6 100) 6).waiting 1 = true ∧ member (0 : OutletSet) 1 = false) := by decide +kernel

theorem witness_WatchActions_range :
    base.oldestHeld = none ∧ (held 10 5).oldestHeld = some 10 ∧ min (8 + 1) 4294967295 < 10 ∧
      10 ≤ min (8 + 2) 4294967295 ∧ min (4294967295 + 255) 4294967295 = 4294967295 ∧
      ((held 10 5).slotCut 2 .drop 2 12 3 1).1.cuts.records.map (fun r => (r.first, r.last)) = [(10, some 13)] := by
  decide +kernel

theorem witness_WatchRequests :
    base.TakesRequests ∧ (15 : Byte).toNat = (15 : SlotId).val ∧ (base.slot 2).state = .disabled ∧
      (base.slot 2).config = none ∧
      ((watching .armed (some (cueConfig .once .report)) base).slot 2).state ≠ .disabled ∧
      ((watching .disabled (some (cueConfig .once .report)) base).slot 2).config ≠ none ∧
      (watchFields.source ≠ 1 ∧ watchFields.action = 2 ∧ outletsOf watchFields.outlets ≠ 0 ∧
        watchFields.target.toNat ≤ 1920) ∧
      1 < ({ watchFields with source := 2 } : WatchFields).source.toNat := by decide +kernel

theorem witness_Clips :
    (let s := held 10 5
     s.TakesRequests ∧ ¬ 1 ≤ (0 : Byte).toNat ∧ 120 < (121 : Byte).toNat ∧ s.bank.engine = .idle ∧
       (s.clip 3).state = .empty ∧ (∀ j, j < (5 : Byte).toNat → s.isHeld ((10 : BitVec 32).toNat + j) = true) ∧
       s.isHeld 15 = false ∧ (120 : Byte).toNat ≤ s.freeFillerRecords ∧ s.heldFrame 10 = some (frame 10)) ∧
      (grabbing.TakesRequests ∧ grabbing.bank.engine ≠ .idle ∧ (grabbing.clip 3).state = .grabbing) ∧
      ((clipReady base).clip 3).state = .ready ∧ ((clipReady base).clip 3).users = 0 ∧
      (let s := base.modClip 0 (fun k => { k with frames := List.replicate 361 (FillerFrame.fresh 0) })
       s.freeFillerRecords < (120 : Byte).toNat) ∧
      (((clipReady base).modClip 3 (fun k => { k with users := 2 })).clip 3).users ≠ 0 ∧
      (let g := grabbing
       g.heldFrame 10 = some { frame 10 with grabHold := true } ∧ (frame 10).pages[0]? = some { lane := laneP, data := [1, 2] } ∧
         0 < g.freePages ∧ 0 + 1 = (frame 10).pages.length ∧ (g.clip 3).copied + 1 < (g.clip 3).count) ∧
      (let g := ran [.copyPageDone] grabbing
       g.bank.engine = .copying 3 11 0 ∧ (g.clip 3).count ≤ (g.clip 3).copied + 1) := by decide +kernel

/-- Frames 10 to 14 Held, where 11 and 12 have no pages. -/
def sparse : State :=
  (held 10 5).setHeld ((held 10 5).store.held.map (fun f => if f.seq = 11 ∨ f.seq = 12 then { f with pages := [] } else f))

theorem witness_Clips_noPages :
    (let s := sparse
     s.TakesRequests ∧ (∀ f ∈ s.heldFrame 11, f.pages = []) ∧ (∀ f ∈ s.store.held, f.seq = 13 → f.pages ≠ []) ∧
       (∀ j, j < 3 → s.isHeld (11 + j) = true)) ∧
      (let g := (ran [.clipGrab 1 3 10 4] sparse).modLink (fun _ => base.link)
       g.bank.engine = .copying 3 10 0 ∧ 0 < g.freePages ∧ (g.clip 3).copied + 2 < (g.clip 3).count ∧
         (∀ x, x < 3 → 1 ≤ x → (g.heldFrame (10 + x)).map (fun f => (f.pages, f.grabHold)) = some ([], true)) ∧
         (∀ f ∈ g.store.held, f.seq = 13 → f.pages ≠ []) ∧
         (ran [.copyPageDone] g).bank.engine = .copying 3 13 0) := by decide +kernel

/-- A grab under way when the pool has no page free. -/
theorem witness_Clips_noPage :
    let p : Page := { lane := laneP, data := [] }
    let s := grabbing.modFrame 11 (fun f => { f with pages := List.replicate 131068 p })
    s.bank.engine = .copying 3 10 0 ∧ s.freePages = 0 ∧ s.heldFrame 10 = some { frame 10 with grabHold := true } := by
  decide +kernel

theorem witness_PanelLines :
    (base.TakesRequests ∧ 1 ≤ (1 : Half).toNat ∧ (1920 : Half).toNat ≤ 1920 ∧ lanesOf 0x3fe ≠ 0 ∧
      member (lanesOf 0x3fe) 0 = false ∧ (30 : Byte).toNat ≤ 30 ∧ 30 < (31 : Byte).toNat) ∧
      (base.panel 2).receiver = .idle ∧
      ((ran [.panelByteReceived 2 sync] base).panel 2).receiver = .inPacket [] ∧ 16 < (17 : Byte).toNat ∧
      (16 : Byte).toNat ≤ 16 ∧
      ((ran ([0xa5, 1].map (.panelByteReceived 2)) base).panel 2).receiver = .inPacket [1] ∧
      ((ran ([0xa5, 1, 9].map (.panelByteReceived 2)) base).panel 2).receiver = .inPacket [1, 9] ∧
      byteSum [1, 9, 0xf6] = 0 ∧ byteSum [1, 9, 0xf7] ≠ 0 ∧
      (base.panel 2).transmitter = .idle ∧
      (let x := (base.modPanel 2 (fun p => { p with errorCount := 59, standing := .active })).panel 2
       x.standing ≠ .isolated ∧ x.errorCount + 4 ≤ 63) ∧
      (let x := (base.modPanel 2 (fun p => { p with errorCount := 155, standing := .warned })).panel 2
       x.standing ≠ .isolated ∧ 64 ≤ x.errorCount + 4 ∧ x.errorCount + 4 ≤ 159) ∧
      (let x := (base.modPanel 2 (fun p => { p with errorCount := 156, standing := .warned })).panel 2
       160 ≤ x.errorCount + 4) := by decide +kernel

/-- A line that becomes Isolated: a record it alone holds closes, one without frames retires, one with another holder
stays open, and PanelStanding leaves before CutClosed. -/
theorem witness_PanelLines_isolated :
    let s := (cutting [{ record 6 .mute 12 none with holders := panelHolder 2 },
        { record 7 .cover 20 none with holders := panelHolder 2 },
        { record 8 .drop 11 none with holders := panelHolder 2 ||| linkHolder }] (held 10 5)).modPanel 2 (fun p =>
      { p with errorCount := 156, standing := .warned })
    let t := s.badPacket 2 .check
    (s.panel 2).standing ≠ .isolated ∧ 160 ≤ (s.panel 2).errorCount + 4 ∧
      t.cuts.records.map (fun r => (r.id, r.last)) = [(6, some 14), (8, none)] ∧
      t.link.notices = [.panelStanding 2 .warned .isolated 160,
        .cutClosed 7 .cover allLanes .link 20 19 (Vector.replicate 4 .idle)] := by decide +kernel

theorem witness_PanelButtons :
    (base.panel 2).standing ≠ .isolated ∧ (base.panel 2).errorCount ≤ 160 ∧ (base.panel 2).transmitter = .idle ∧
      member (0x1 : ButtonSet) Button.mute.index = false ∧ base.oldestHeld = none ∧
      member (base.panelCfg 2).buttons Button.drop.index = true ∧ (base.panel 2).muteLamp = false ∧
      (let s := started 3 (held 10 5)
       s.oldestHeld = some 10 ∧ s.edge = some 14 ∧ s.isRunning 1 = true ∧
         (∀ o, s.isRunning o = true → (s.outlet 1).readMark ≤ (s.outlet o).readMark) ∧ (s.outlet 1).readMark ≤ 14) ∧
      (let s := outlet1 .holding 15 (held 10 5)
       s.isRunning 1 = true ∧ 14 < (s.outlet 1).readMark) ∧
      (∀ o, (held 10 5).isRunning o = false) ∧
      (let s := cutting [{ record 6 .mute 12 none with holders := panelHolder 2, origin := .panel 2, lanes := 0x3fe }]
         ((held 10 5).modPanel 2 (fun x => { x with muteLamp := true }))
       (s.panel 2).muteLamp = true ∧ s.CutLaw ∧ member (panelHolder 2) (2 : PanelId).val = true) := by decide +kernel

/-- A PRESS packet acts, a LET GO packet acts, and HELLO, an unknown type and an unknown button do not. -/
theorem witness_PanelButtons_packets :
    let s := held 10 5
    Button.drop.toByte = 1 ∧ Button.cover.toByte = 4 ∧ (s.panel 2).standing ≠ .isolated ∧
      (s.goodPacket 2 [2, 1]).cuts.records.map (fun r => (r.first, r.last)) = [(10, some 14)] ∧
      ((s.goodPacket 2 [2, 3]).panel 2).muteLamp = true ∧
      ((s.goodPacket 2 [3, 3, 9]).panel 2).lastResult =
        some { button := .mute, message := .letGo, result := .ignored } ∧
      (∀ body ∈ ([[1], [2], [4, 1], [2, 0], [3, 5]] : List (List Byte)),
        ((s.goodPacket 2 body).panel 2).lastResult = none ∧ ((s.goodPacket 2 body).panel 2).good = 1) ∧
      ([2] : List Byte).length < 2 ∧ (4 : Byte) ≠ 2 ∧ (4 : Byte) ≠ 3 ∧ 4 < (5 : Byte).toNat := by decide +kernel

/-- A let go of the only holder closes its record and says so; one of two holders leaves it open and says so; and one
that finds no hold changes nothing. -/
theorem witness_PanelButtons_letGo :
    let mute : CutRecord := { record 6 .mute 12 none with holders := panelHolder 2, origin := .panel 2, lanes := 0x3fe }
    let alone := cutting [mute, record 7 .drop 11 (some 12)] (held 10 5)
    let shared := cutting [{ mute with holders := panelHolder 2 ||| linkHolder }] (held 10 5)
    alone.CutLaw ∧ shared.CutLaw ∧ mute.isOpen = true ∧ member mute.holders (2 : PanelId).val = true ∧
      (alone.letGo 2 .mute).2 = some { id := 6, closed := true } ∧
      (alone.letGo 2 .mute).1.cuts.records.map (fun r => (r.id, r.last)) = [(6, some 14), (7, some 12)] ∧
      (shared.letGo 2 .mute).2 = some { id := 6, closed := false } ∧
      (shared.letGo 2 .mute).1.cuts.records.map (fun r => (r.last, r.holders)) = [(none, linkHolder)] ∧
      (∀ r ∈ alone.cuts.records, r.isOpen = true → r.kind = .cover → member r.holders (2 : PanelId).val = false) ∧
      (alone.letGo 2 .cover).2 = none := by decide +kernel

/-- A hold that the hold limit has ended: the lamp still on, the LET GO is Ignored and sets it off. -/
theorem witness_PanelButtons_noHold :
    let s := (held 10 5).modPanel 2 (fun x => { x with muteLamp := true })
    ((s.releaseButton 2 .mute).panel 2).muteLamp = false ∧
      ((s.releaseButton 2 .mute).panel 2).lastResult =
        some { button := .mute, message := .letGo, result := .ignored } := by decide +kernel

theorem witness_StepKeepsBounds :
    let s := (held 10 5).withPending [.sourceLost]
    step s = .next (ran [.sourceLost] (s.withPending [])) ∧ s.QueueLaw ∧ s.TargetLaw ∧ s.CountLaw ∧ s.SlotLaw ∧
      s.ActionLaw ∧ s.settings.current.Lawful :=
  ⟨rfl, by decide +kernel⟩

theorem witness_StepKeepsTheRing :
    let s := (started 3 (held 10 5)).withPending [.periodStart 1]
    step s = .next (ran [.periodStart 1] (s.withPending [])) ∧ s.RingLaw ∧ s.ClaimLaw ∧ s.FlightLaw :=
  ⟨rfl, by decide +kernel⟩

theorem witness_StepKeepsTheBank :
    let s := grabbing.withPending [.copyPageDone]
    step s = .next (ran [.copyPageDone] (s.withPending [])) ∧ s.RingLaw ∧ s.FlightLaw ∧ s.PageLaw ∧ s.ClipLaw ∧
      s.GrabLaw ∧ s.UserLaw :=
  ⟨rfl, by decide +kernel⟩

theorem witness_StepKeepsTheCutTable :
    let s := (cutting [record 6 .drop 11 none, record 7 .cover 11 (some 12)] (held 10 5)).withPending [.cutClose 1 6]
    step s = .next (ran [.cutClose 1 6] (s.withPending [])) ∧ s.settings.current.Lawful ∧ s.ActionLaw ∧ s.CutLaw ∧
      s.RingLaw ∧ s.MeetLaw ∧ s.ClosedLaw ∧ s.LimitLaw :=
  ⟨rfl, by decide +kernel⟩

theorem witness_StepKeepsIsolation :
    let s := (base.modPanel 2 (fun x => { x with standing := .isolated, errorCount := 163 })).withPending [.panelRestore 1 2]
    step s = .next (ran [.panelRestore 1 2] (s.withPending [])) ∧ s.StandingLaw ∧ s.IsolationLaw :=
  ⟨rfl, by decide +kernel⟩

end Sys2Proof.Tests
end

section
/-! The criteria of a Cue slot, and the cue items that a frame offers (07_watch_slots.md, R43 and R143). -/

namespace Sys2Proof.Machine

/-! ## Words compared bit by bit -/

/-- Bits from number 16 on are clear in every 16-bit word, so only the first sixteen have to be asked for. -/
theorem half_eq_zero_iff (x : Half) : x = 0 ↔ ∀ b : Nat, b < 16 → member x b = false := by
  constructor
  · rintro rfl b -
    simp [member]
  · exact fun h => BitVec.eq_of_getLsbD_eq fun b hb => by simpa [member] using h b hb

theorem half_eq_iff (x y : Half) : x = y ↔ ∀ b : Nat, b < 16 → member x b = member y b :=
  ⟨fun h _ _ => h ▸ rfl, BitVec.eq_of_getLsbD_eq⟩

/-- The high byte of a word is its bits 8 to 15. -/
theorem highByte_eq_iff (x y : Half) :
    x.toNat / 256 = y.toNat / 256 ↔ ∀ b : Nat, b < 16 → 8 ≤ b → member x b = member y b := by
  have shifted (z : Half) : z.toNat / 256 = (z >>> 8).toNat := by simp [Nat.shiftRight_eq_div_pow]
  rw [shifted, shifted, BitVec.toNat_inj, half_eq_iff]
  simp only [member, BitVec.getLsbD_ushiftRight]
  constructor
  · intro h b hb hhigh
    simpa [Nat.add_sub_cancel' hhigh] using h (b - 8) (by omega)
  · intro h b _
    by_cases hin : 8 + b < 16
    · exact h (8 + b) hin (by omega)
    · simp [BitVec.getLsbD_of_ge _ _ (Nat.le_of_not_lt hin)]

/-- The mask FF00h compares the bits of the high byte and no others. -/
theorem member_highByteMask : ∀ b : Nat, b < 16 → member (0xff00 : Half) b = decide (8 ≤ b) := by decide

theorem member_fullMask : ∀ b : Nat, b < 16 → member (0xffff : Half) b = true := by decide

/-! ## Criteria (R143) -/

/-- The one fact about the criteria; what a particular mask asks for follows from it. -/
theorem WatchConfig.meetsCue_iff (c : WatchConfig) (w : Half) :
    c.meetsCue w = true ↔ ∀ b : Nat, b < 16 → member c.mask b = true → member w b = member c.pattern b := by
  rw [WatchConfig.meetsCue, beq_iff_eq, half_eq_zero_iff]
  refine forall₂_congr fun b _ => ?_
  simp only [member, BitVec.getLsbD_and, BitVec.getLsbD_xor]
  cases c.mask.getLsbD b <;> simp

theorem WatchConfig.meets_cueItem {c : WatchConfig} {x : Item} {w : Half} (hc : c.source = .cue)
    (hx : x.cue = some w) : c.meets x = c.meetsCue w := by
  simp [WatchConfig.meets, hc, hx]

theorem WatchConfig.meetsCue_fullMask {c : WatchConfig} (h : c.mask = 0xffff) (w : Half) :
    c.meetsCue w = true ↔ w = c.pattern := by
  rw [c.meetsCue_iff, h, half_eq_iff]
  exact forall₂_congr fun b hb => by rw [member_fullMask b hb, eq_self, true_imp_iff]

theorem WatchConfig.meetsCue_highByteMask {c : WatchConfig} (h : c.mask = 0xff00) (w : Half) :
    c.meetsCue w = true ↔ w.toNat / 256 = c.pattern.toNat / 256 := by
  rw [c.meetsCue_iff, h, highByte_eq_iff]
  exact forall₂_congr fun b hb => by rw [member_highByteMask b hb, decide_eq_true_iff]

theorem WatchConfig.meetsCue_emptyMask {c : WatchConfig} (h : c.mask = 0) (w : Half) : c.meetsCue w = true := by
  rw [c.meetsCue_iff, h]
  simp [member]

/-! ## Offers (R43) -/

theorem State.offerAll_cons (s : State) (x : Item) (xs : List Item) :
    s.offerAll (x :: xs) = (s.offer x).offerAll xs := rfl

/-- Settles O48: the clauses on masks follow from the criteria bit by bit, those on offers from the list of a frame's
items. -/
theorem cueCriteria : Obligations.CueCriteria :=
  ⟨fun c _ w hc hx => by rw [WatchConfig.meets_cueItem hc hx, c.meetsCue_iff],
    fun _ w h => WatchConfig.meetsCue_fullMask h w,
    fun _ w h => WatchConfig.meetsCue_highByteMask h w,
    fun _ w h => WatchConfig.meetsCue_emptyMask h w,
    fun _ _ _ => rfl,
    State.offerAll_cons⟩

end Sys2Proof.Machine
end

section
/-! The result byte of a reply and the type byte of a notice (11_message_layouts.md, R193 and R194). -/

namespace Sys2Proof.Machine

/-- The result byte follows the type and the tag; the fields follow it (R192). -/
theorem replyBody_eq_cons (type tag : Byte) (a : Answer) :
    replyBody type tag a = (type + 0x80) :: tag :: a.code.toByte :: a.fields := rfl

theorem replyBody_resultByte (type tag : Byte) (a : Answer) : (replyBody type tag a)[2]? = some a.code.toByte := by
  simp [replyBody_eq_cons]

@[simp] theorem Notice.head?_body (n : Notice) : n.body.head? = some n.type := rfl

/-- Settles O11: the values are the rows of the code table, the result byte stands at offset 2 of every reply, and the
first byte of a notice's body is its type, which each kind of notice gives by its row. -/
theorem codeAndTypeValues : Obligations.CodeAndTypeValues := by
  refine ⟨?codes, replyBody_resultByte, fun n => ?types⟩
  case codes => simp only [ResultCode.toByte, and_self]
  case types =>
    rw [n.head?_body]
    cases n <;> rfl

end Sys2Proof.Machine
end
